-- ==== Sys2Proof/Word.lean ====
section
/-! DEFINITION. The byte and the small data shapes shared by every layer: bytes on a link, and a triple of channel
values (a picture code, a level triple, a gain triple). -/

namespace Sys2Proof

/-- One byte of a packet (12: every packet is a run of whole bytes). -/
abbrev Byte := BitVec 8

/-- Three channel values R, G, B: a picture code (each 0–4095), a level triple (each 0–65535), a gain profile
(each 0–65535) or three current coefficients (00 section 5.2, 5.3). -/
structure Rgb where
  r : Nat
  g : Nat
  b : Nat
  deriving DecidableEq, Repr

/-- The three channels all at one value. -/
def Rgb.all (v : Nat) : Rgb := { r := v, g := v, b := v }

/-- Applies one function to each channel. -/
def Rgb.map (f : Nat → Nat) (c : Rgb) : Rgb := { r := f c.r, g := f c.g, b := f c.b }

/-- Applies one function to each channel of two triples. -/
def Rgb.zip (f : Nat → Nat → Nat) (c d : Rgb) : Rgb := { r := f c.r d.r, g := f c.g d.g, b := f c.b d.b }

end Sys2Proof
end

