-- ==== Sys2Proof/Syntax.lean ====
section
/-! DEFINITION. The rows of spec/opcode_table.json, one constructor each, in the table's order. A row that is a
packet carries the packet; a row that is an event at one chain, position or zone carries its number; a command row
(READ_IDENTITY to READ_COUNTERS) carries nothing, because it is the command taken event of R165: its header and
payload stand in the oldest entry of the intake queue (log 1). -/

namespace Sys2Proof

/-- In which order work that falls together at one output frame end is taken, where the manual says that both orders
are possible (log 8). -/
structure FrameEndOrder where
  /-- The thermal block's evaluation before the chain ports' (R54, R100). -/
  thermalFirst : Bool
  /-- The power block's evaluation before the chain ports' (R93). -/
  powerFirst : Bool
  /-- How many steps of the other blocks are taken before the event unit's frame count (R175); with fewer steps than
  this, the count is taken last. -/
  countAt : Nat
  deriving DecidableEq, Repr

/-- One constructor per row of spec/opcode_table.json. -/
inductive Instr where
  /-- R21: the RESET line. -/
  | powerOnReset
  /-- R2, Table 12-1: a frame-start marker. -/
  | frameStartMarker (seq width height : BitVec 16)
  /-- R4, Table 12-2: a line packet, its pixel bytes and its check as carried. -/
  | linePacket (line count : BitVec 16) (pixels : List Byte) (check : BitVec 16)
  /-- R160, Table 12-3: a margin packet, the bytes after its type byte. -/
  | marginPacket (body : List Byte)
  /-- R181: a forward-lane packet of another type byte or of a wrong length, all its bytes. -/
  | unknownForwardPacket (bytes : List Byte)
  /-- R14: a REF pulse. -/
  | refPulse
  /-- R15: 1.5 nominal periods have passed with no REF pulse. -/
  | refLossTimeout
  /-- R17: a new output frame begins. -/
  | outputFrameStart
  /-- R17: the active output period is complete. -/
  | outputFrameEnd (order : FrameEndOrder)
  /-- R11. -/
  | inputLoss
  /-- R55: like the seven rows behind it, an output frame end at which the named thing comes about (log 4). -/
  | tileSilent (chain : Fin 8) (position : Fin 16)
  /-- R56. -/
  | chainFailed (chain : Fin 8)
  /-- R57. -/
  | holdoffExpiry (chain : Fin 8)
  /-- R102. -/
  | zoneWarm (zone : Fin 16)
  /-- R102. -/
  | zoneHot (zone : Fin 16)
  /-- R102. -/
  | zoneShutdown (zone : Fin 16)
  /-- R103. -/
  | zoneStepDown (zone : Fin 16)
  /-- R104. -/
  | zoneShutdownExit (zone : Fin 16)
  /-- R175. -/
  | noticeDue
  /-- R176. -/
  | noticeQueued
  /-- R127. -/
  | tallyRisingEdge
  /-- R127. -/
  | tallyFallingEdge
  /-- R40. -/
  | checkCompletion
  /-- R51, R182, Table 12-9: a packet arrives on a chain port as an identity record. -/
  | identityArrival (chain : Fin 8) (bytes : List Byte)
  /-- R54, R182, Table 12-9: a packet arrives on a chain port as a tile report. -/
  | tileReportArrival (chain : Fin 8) (bytes : List Byte)
  /-- R168: a packet from the through link's return lane. -/
  | passPacketArrival (bytes : List Byte)
  /-- R169. -/
  | sendCompletion
  | unknownCommand
  | readIdentity
  | readStatus
  | setAddresses
  | softReset
  | tablesReset
  | setInput
  | setOutput
  | readInput
  | writeTiles
  | writeProfiles
  | writeCurve
  | writeRegions
  | setLookFields
  | clearStaged
  | copyActive
  | checkLook
  | readLook
  | writeTileType
  | setChain
  | restartChain
  | readRoster
  | setMaster
  | setThermal
  | readThermal
  | addCue
  | cancelCue
  | clearCues
  | readCues
  | setGuard
  | writeFixtures
  | deleteFixture
  | beginScene
  | sceneEntries
  | deleteScene
  | setLightMaster
  | readFixtures
  | readScene
  | setLine
  | readFollow
  | clearEvents
  | setNotice
  | clearFaults
  | readCounters
  deriving DecidableEq, Repr

end Sys2Proof
end

