-- ==== Sys2Proof/Decode.lean ====
section
/-! DEFINITION. The decoder asked of a block: the row that a word spells by the bits of spec/opcode_table.json. No row
of this table gives bits (every row's field list is empty), so no word spells a row (log 29). -/

namespace Sys2Proof

/-- The row that the low nbits of w spell: none, for every word. -/
def decodeTableWord (_nbits _w : Nat) : Option Instr := none

end Sys2Proof
end

