-- ==== Sys2Proof/Config.lean ====
section
/-! DEFINITION. What the manual fixes for every part (identity codes, queue sizes, rate table) and the free values:
what the manual leaves open after a step that goes on. A free value is an opaque constant with no body, so that no
proof can rest on what it is. -/

namespace Sys2Proof.Config

/-- R170: the vendor code. -/
abbrev vendorCode : Nat := 0x485A

/-- R170: the part code. -/
abbrev partCode : Nat := 3416

/-- R170: the revision code. -/
abbrev revisionCode : Nat := 2

/-- R164: commands the intake queue holds. -/
abbrev intakeSize : Nat := 8

/-- R168: slots of the own queue. -/
abbrev ownSize : Nat := 8

/-- R168: packets the pass queue holds. -/
abbrev passSize : Nat := 16

/-- R113: cues the cue queue holds. -/
abbrev cueSize : Nat := 32

/-- R136: scene entries of the pool. -/
abbrev poolSize : Nat := 2048

/-- R179: the value at which every counter stops. -/
abbrev counterMax : Nat := 65535

/-- R117: how far ahead of the output frame number a trigger frame may lie. -/
abbrev cueHorizon : Nat := 16777216

/-- Free value (log 13): how many of a frame's pixels a chain port has sent when the chain leaves RUN during the frame
(R49, R58, R82). Read at the index State.freeIndex. -/
opaque pixelsSent : Nat → Nat

/-- Free value (log 4): whether the thermal block is evaluated before the chain ports at an output frame end whose row
does not say it (R54, R100). Read at the index State.freeIndex. -/
opaque thermalFirst : Nat → Bool

/-- Free value (log 4): the same of the power block and the chain ports (R93). -/
opaque powerFirst : Nat → Bool

/-- Free value (log 4): how many steps of the other blocks come before the event unit's frame count there (R175). -/
opaque countAt : Nat → Nat

/-- Free layout (log 19): the bytes, if any, that stand before the n numbers of a list in a CLEAR_FAULTS reply (R178);
the manual gives the numbers and their order, and no rule that marks off a list. -/
opaque listBefore : Nat → List Byte

/-- Free layout (log 19): the bytes, if any, that stand behind the n numbers of such a list. -/
opaque listAfter : Nat → List Byte

end Sys2Proof.Config
end

