-- ==== Sys2Proof/Machine/Blocks.lean ====
section
/-! DEFINITION. The data of each block of the part, as plain data. Every field cites the rule that names it. -/

namespace Sys2Proof.Machine

/-! ## Counters (R179) -/

/-- A counter of Table 11-3 with its overflow flag. -/
structure Counter where
  value : Nat
  overflow : Bool
  deriving DecidableEq, Repr

/-- A cleared counter. -/
def Counter.zero : Counter := { value := 0, overflow := false }

/-! ## Pins (00 Table 3-1) -/

/-- The straps and the TALLY line. -/
structure Pins where
  addrStrap : BitVec 6
  rateStrap : BitVec 3
  /-- R127: true is high. -/
  tally : Bool
  deriving DecidableEq, Repr

/-! ## Link receiver and frame store (chapter 1) -/

/-- R1. -/
inductive Assembly where
  | idle | open | rejected
  deriving DecidableEq, Repr

/-- R1, R4: the input frame being assembled and its line tally. -/
structure LinkReceiver where
  assembly : Assembly
  /-- R3, R4: the set of line numbers received good, rising, no repeats. -/
  good : List Nat
  lineBad : Counter
  deriving DecidableEq, Repr

/-- R7. -/
inductive PageRole where
  | free | write | latest | read
  deriving DecidableEq, Repr

/-- R7: one frame page. The content of line y is the entry for y in `lines`, and a line of the colour `base` where
there is none (log 22). -/
structure Page where
  role : PageRole
  size : Option (Nat × Nat)
  seq : Option (BitVec 16)
  base : Rgb
  lines : List (Nat × List Rgb)
  deriving DecidableEq, Repr

/-- R10. -/
inductive InputState where
  | none | live | lossHold | lossFill
  deriving DecidableEq, Repr

/-- R18. -/
inductive LossAction where
  | hold | fill
  deriving DecidableEq, Repr

/-- R7, R8, R10, R11, R18. -/
structure FrameStore where
  pages : Vector Page 3
  everRead : Bool
  repeats : Nat
  inputState : InputState
  lossActive : Bool
  missingLimit : Nat
  holdLimit : Nat
  lossAction : LossAction
  fill : Rgb
  dropped : Counter
  repeated : Counter
  bad : Counter
  deriving DecidableEq, Repr

/-! ## Output timing generator (R13–R17) -/

/-- R13. -/
inductive RefState where
  | unlocked | locked | lost
  deriving DecidableEq, Repr

/-- R14, R17: where the generator stands in the current output frame. -/
inductive FramePhase where
  /-- No output frame has begun since power-on. -/
  | notBegun
  /-- The frame has begun and its frame end has not been raised. -/
  | active
  /-- The frame end has been raised. -/
  | ended
  deriving DecidableEq, Repr

/-- R13, R14, R17. -/
structure Timing where
  ref : RefState
  rate : BitVec 3
  pendingRate : Option (BitVec 3)
  frame : BitVec 32
  phase : FramePhase
  /-- R14, R15: a frame start is held until the current frame end. -/
  held : Bool
  deriving DecidableEq, Repr

/-! ## Look store (chapter 2) -/

/-- Table 2-2. -/
inductive Orientation where
  | normal | rot180 | mirrorH | mirrorV
  deriving DecidableEq, Repr

/-- R22. -/
structure TileEntry where
  present : Bool
  typeId : Nat
  x : Int
  y : Int
  orientation : Orientation
  profile : Nat
  curve : Nat
  zone : Nat
  deriving DecidableEq, Repr

/-- R24. -/
structure Region where
  x : Int
  y : Int
  width : Nat
  height : Nat
  deriving DecidableEq, Repr

/-- Table 2-1. -/
structure Look where
  tiles : Vector TileEntry 128
  profiles : Vector Rgb 64
  curves : Vector (Vector Nat 33) 8
  regions : Vector Region 16
  border : Rgb
  label : BitVec 32
  deriving DecidableEq, Repr

/-- R25: a defined tile type entry. -/
structure TileType where
  code : BitVec 16
  width : Nat
  height : Nat
  depth : Nat
  /-- kR, kG, kB in µA. -/
  k : Rgb
  deriving DecidableEq, Repr

/-- R28. -/
inductive StagedState where
  | editing | checking | checked
  deriving DecidableEq, Repr

/-- Table 2-7: the first failure a check found. -/
inductive CheckFailure where
  /-- TILES, the slot, UNDEFINED_TYPE. -/
  | undefinedType (slot : Nat)
  /-- CURVES, the curve number, DECREASING. -/
  | decreasing (curve : Nat)
  deriving DecidableEq, Repr

/-- R40: the last check result record. -/
inductive CheckResult where
  | none | passed | failed (why : CheckFailure) | abandoned
  deriving DecidableEq, Repr

/-- R27, R28, R40, R25. -/
structure LookStore where
  bank0 : Look
  bank1 : Look
  activeIsBank1 : Bool
  staged : StagedState
  result : CheckResult
  /-- R40: the output frame ends taken since the running check began; 0 while none runs. -/
  checkEnds : Nat
  /-- R25: none is an undefined entry. -/
  types : Vector (Option TileType) 8
  deriving DecidableEq, Repr

/-! ## Compositor (chapter 4) -/

/-- R10. -/
inductive PictureSource where
  | none | fill | page (p : Fin 3)
  deriving DecidableEq, Repr

/-- R61. -/
inductive SlotStatus where
  | mapped | mismatch | unmapped | absent | empty
  deriving DecidableEq, Repr

/-- R67, Table 4-1: the frame latch, with the wall slot status table of R61. -/
structure FrameLatch where
  source : PictureSource
  raster : Option (Nat × Nat)
  fill : Rgb
  look : Look
  types : Vector (Option TileType) 8
  status : Vector SlotStatus 128
  master : Nat
  zoneScale : Vector Nat 16
  limiter : Vector Nat 8
  composite : Vector Nat 16
  deriving DecidableEq, Repr

/-! ## Chain ports (chapter 3) -/

/-- Table 3-1. -/
inductive PortState where
  | off | probe | enumerate | run | failed
  deriving DecidableEq, Repr

/-- R48, R108. -/
inductive Recovery where
  | auto | latched
  deriving DecidableEq, Repr

/-- Table 3-2. -/
structure ChainConfig where
  enable : Bool
  recovery : Recovery
  holdoff : Nat
  silentLimit : Nat
  budget : Nat
  releaseStep : Nat
  deriving DecidableEq, Repr

/-- Table 3-3. -/
structure Identity where
  code : BitVec 16
  serial : BitVec 32
  width : Nat
  height : Nat
  depth : Nat
  deriving DecidableEq, Repr

/-- R54: a tile report as taken; no reading is the no-reading mark. -/
structure TileReport where
  reading : Option Int
  errors : Nat
  deriving DecidableEq, Repr

/-- R47: one position of a port's report store. -/
structure Position where
  last : Option TileReport
  since : Nat
  silent : Bool
  fresh : Bool
  deriving DecidableEq, Repr

/-- R47. -/
structure ChainPort where
  state : PortState
  /-- R60, Table 3-4: enabled in OFF, with no frame event since (log 31). -/
  newlyEnabled : Bool
  config : ChainConfig
  roster : List Identity
  stale : Bool
  reports : Vector Position 16
  windowOpen : Bool
  /-- R50. -/
  answered : Bool
  collection : List Identity
  /-- R51: ROSTER_OVERLONG has been raised for this enumeration. -/
  overlong : Bool
  holdoffCount : Nat
  linkErrors : Counter
  enumFails : Counter
  silentEvents : Counter
  deriving DecidableEq, Repr

/-! ## Power block (chapter 5) -/

/-- R84, R142: a master's ramp record. -/
structure Ramp where
  active : Bool
  start : Nat
  target : Nat
  /-- N. -/
  total : Nat
  /-- j. -/
  taken : Nat
  deriving DecidableEq, Repr

/-- R89: one chain's limiter. -/
structure Limiter where
  scale : Nat
  acc : Nat
  measured : Bool
  deriving DecidableEq, Repr

/-- R84, R89. -/
structure Power where
  master : Nat
  ramp : Ramp
  limiters : Vector Limiter 8
  deriving DecidableEq, Repr

/-! ## Thermal block (chapter 6) -/

/-- Table 6-2. -/
inductive ZoneState where
  | normal | warm | hot | shutdown
  deriving DecidableEq, Repr

/-- Table 6-1. -/
inductive Response where
  | zone | global
  deriving DecidableEq, Repr

/-- Table 6-1. -/
structure ThermalConfig where
  warnLow : Int
  warnHigh : Int
  shutdown : Int
  hysteresis : Nat
  deglitch : Nat
  derate : Nat
  recoveryStep : Nat
  response : Response
  recovery : Recovery
  deriving DecidableEq, Repr

/-- R97: a zone record. -/
structure Zone where
  state : ZoneState
  temp : Option Int
  members : Nat
  warm : Nat
  hot : Nat
  shut : Nat
  down : Nat
  scale : Nat
  deriving DecidableEq, Repr

/-- R97. -/
structure Thermal where
  config : ThermalConfig
  zones : Vector Zone 16
  deriving DecidableEq, Repr

/-! ## Cue engine (chapter 7) -/

/-- R114, R115: the trigger with its frame, or with its edge mark. -/
inductive Trigger where
  | atFrame (n : BitVec 32)
  | next
  | onTally (edge : Bool)
  deriving DecidableEq, Repr

/-- R116: a cue's period, its count r and, where r is not 0, the firings still to come. -/
structure CueRepeat where
  period : Nat
  count : Nat
  remaining : Nat
  deriving DecidableEq, Repr

/-- A MASTER or LIGHT_MASTER action. -/
structure MasterAction where
  target : Nat
  frames : Nat
  deriving DecidableEq, Repr

/-- One LIGHT_FADE entry. -/
structure FadeAction where
  scene : Nat
  mask : BitVec 16
  frames : Nat
  deriving DecidableEq, Repr

/-- A FOLLOW action. -/
structure FollowAction where
  mask : BitVec 16
  on : Bool
  deriving DecidableEq, Repr

/-- R114, Table 7-2. -/
structure Cue where
  id : Nat
  trigger : Trigger
  rep : Option CueRepeat
  swapLook : Bool
  master : Option MasterAction
  fades : List FadeAction
  follow : Option FollowAction
  lightMaster : Option MasterAction
  deriving DecidableEq, Repr

/-- R122: the action kinds an owner may skip. -/
inductive SkippedAction where
  | swapLook
  /-- The entry's place in the list, 0–3. -/
  | lightFade (place : Nat)
  deriving DecidableEq, Repr

/-- R113, Table 7-1. -/
structure CueEngine where
  queue : List Cue
  ended : Option (BitVec 32)
  lastFired : Nat
  lastSkipped : Option (Nat × SkippedAction)
  guard : Bool
  deriving DecidableEq, Repr

/-! ## Lighting block (chapter 8) -/

/-- Table 8-2. -/
inductive FootprintKind where
  | dim8 | dim16 | rgb8 | rgbi8 | rgb16
  deriving DecidableEq, Repr

/-- R135: a running fade. -/
structure Fade where
  start : Nat
  target : Nat
  total : Nat
  elapsed : Nat
  deriving DecidableEq, Repr

/-- R135: an attribute and its fade. -/
structure Attr where
  current : Nat
  fade : Option Fade
  deriving DecidableEq, Repr

/-- Table 8-1 and the four attributes of R130. -/
structure Fixture where
  present : Bool
  line : Nat
  base : Nat
  kind : FootprintKind
  groups : BitVec 16
  region : Option Nat
  gain : Nat
  rate : Nat
  followOn : Bool
  i : Attr
  r : Attr
  g : Attr
  b : Attr
  deriving DecidableEq, Repr

/-- R136: a scene entry; an attribute outside its mask has no value. -/
structure SceneEntry where
  fixture : Nat
  i : Option Nat
  r : Option Nat
  g : Option Nat
  b : Option Nat
  deriving DecidableEq, Repr

/-- Table 8-3. -/
inductive Scene where
  | empty
  | building (expected : Nat) (entries : List SceneEntry)
  | ready (entries : List SceneEntry)
  deriving DecidableEq, Repr

/-- R130, R136, R142. -/
structure Lights where
  fixtures : Vector Fixture 96
  scenes : Vector Scene 64
  master : Nat
  ramp : Ramp
  deriving DecidableEq, Repr

/-! ## Follow and line output (chapter 9) -/

/-- R146: a running record. -/
structure RegionSum where
  sum : Rgb
  count : Nat
  deriving DecidableEq, Repr

/-- R156. -/
structure LineConfig where
  enable : Bool
  slots : Nat
  deriving DecidableEq, Repr

/-- R146, R149, R154, R156. -/
structure FollowBlock where
  running : Vector RegionSum 16
  /-- R146: none is an invalid record. -/
  published : Vector (Option Rgb) 16
  values : Vector Rgb 96
  lines : Vector LineConfig 4
  images : Vector (Vector Byte 320) 4
  deriving DecidableEq, Repr

/-! ## Command intake, executor and return merger (chapter 10) -/

/-- R161. -/
inductive MatchKind where
  | direct | group | broadcast
  deriving DecidableEq, Repr

/-- R164. -/
structure Entry where
  kind : MatchKind
  dest : Byte
  code : Byte
  tag : Byte
  payload : List Byte
  deriving DecidableEq, Repr

/-- R165. -/
inductive ExecutorState where
  | idle | waiting
  deriving DecidableEq, Repr

/-- R161, R164, R165, Table 10-1. -/
structure Intake where
  slot0 : Byte
  slot1 : Option Byte
  slot2 : Option Byte
  slot3 : Option Byte
  mask : Byte
  queue : List Entry
  executor : ExecutorState
  framing : Counter
  check : Counter
  misplaced : Counter
  intakeFull : Counter
  repliesDropped : Counter
  deriving DecidableEq, Repr

/-- Table 10-2. -/
inductive Result where
  | ok | okLate | accepted | badCommand | badLength | denied | badArgument
  | busy | inUse | duplicate | conflict | full | notFound | notReady
  deriving DecidableEq, Repr

/-- R167, R176, Table 12-4: a packet of this part on the return lane. -/
inductive ReturnPacket where
  | reply (source status code tag : Byte) (result : Result) (data : List Byte)
  | notice (source status groups : Byte)
  deriving DecidableEq, Repr

/-- R168. -/
inductive ReturnSource where
  | own | pass
  deriving DecidableEq, Repr

/-- R168. -/
structure Merger where
  own : List ReturnPacket
  reserved : Nat
  pass : List (List Byte)
  last : ReturnSource
  /-- The packet being sent; none when the lane is idle. -/
  sending : Option (List Byte)
  drops : Counter
  deriving DecidableEq, Repr

/-! ## Event unit (chapter 11) -/

/-- R173, R175. The flags stand in the bit order of the CLEAR_EVENTS mask (Table 12-11), the groups and their
enables in the bit order of Table 12-5. -/
structure EventUnit where
  flags : BitVec 24
  groups : BitVec 7
  enables : BitVec 7
  countThreshold : Nat
  frameThreshold : Nat
  pending : Nat
  frames : Nat
  due : Bool
  deriving DecidableEq, Repr

/-! ## What the part has sent (the model's own record, log 15) -/

/-- The packets put out on each link, port and line (log 15). -/
structure Output where
  /-- The forward stream passed to the through link (R1, R162). -/
  through : List (List Byte)
  /-- Packets whose sending on the return lane has started (R169). -/
  upstream : List (List Byte)
  /-- The packets each chain port has sent in the current output frame. -/
  chains : Vector (List (List Byte)) 8
  /-- The level packet of each line in the current output frame. -/
  lights : Vector (Option (List Byte)) 4
  deriving DecidableEq, Repr

end Sys2Proof.Machine
end

