-- ==== Sys2Proof/Machine/Packets.lean ====
section
/-! DEFINITION. The byte layouts of chapter 12: fields, the CRC-16, the packing of pixels, the packets of every link,
and the layouts of the records that replies carry. -/

namespace Sys2Proof.Machine

/-! ## Fields (12: most significant byte first) -/

/-- A one-byte field. -/
def be1 (n : Nat) : List Byte := [BitVec.ofNat 8 n]

/-- A two-byte field. -/
def be2 (n : Nat) : List Byte := [BitVec.ofNat 8 (n / 256), BitVec.ofNat 8 n]

/-- A four-byte field. -/
def be4 (n : Nat) : List Byte := be2 (n / 65536) ++ be2 n

/-- A two-byte signed field, two's complement. -/
def signed2 (x : Int) : List Byte := be2 (x % 65536).toNat

/-- Fields sent as 0. -/
def zeros (n : Nat) : List Byte := List.replicate n 0

/-- R183: a yes/no field, 0 for no and 1 for yes. -/
def yesNo (b : Bool) : List Byte := if b then [1] else [0]

/-- R181: a value that can be absent: a presence byte, then the field, sent as 0 when absent. -/
def optional {α : Type} (width : Nat) (enc : α → List Byte) : Option α → List Byte
  | some a => 1 :: enc a
  | none => 0 :: zeros width

/-- Three two-byte fields R, G, B. -/
def rgb2 (c : Rgb) : List Byte := be2 c.r ++ be2 c.g ++ be2 c.b

/-- The value of a run of bytes, most significant first. -/
def beNat (bytes : List Byte) : Nat := bytes.foldl (fun n b => n * 256 + b.toNat) 0

/-! ## CRC-16 (R181) -/

/-- One bit of the polynomial 0x1021, most significant bit first. -/
def crcBit (c : BitVec 16) : BitVec 16 := if c.msb then (c <<< 1) ^^^ 0x1021 else c <<< 1

/-- One byte. -/
def crcByte (c : BitVec 16) (b : Byte) : BitVec 16 :=
  crcBit (crcBit (crcBit (crcBit (crcBit (crcBit (crcBit (crcBit (c ^^^ (b.setWidth 16 <<< 8)))))))))

/-- R181: initial value 0xFFFF, no final inversion. -/
def crc16 (bytes : List Byte) : BitVec 16 := bytes.foldl crcByte 0xFFFF

/-- A packet with its check behind it. -/
def withCheck (bytes : List Byte) : List Byte := bytes ++ be2 (crc16 bytes).toNat

/-- Whether the last two bytes are the CRC-16 of the bytes before them. -/
def checkRight (packet : List Byte) : Bool :=
  let n := packet.length - 2
  2 ≤ packet.length && packet.drop n == be2 (crc16 (packet.take n)).toNat

/-! ## Bits without gaps (Table 12-2, Table 12-9)

Which end of a byte a packed code fills first is not stated: here the most significant, from bit 7 down (DEDUCED,
log 36). -/

/-- The low n bits of v, most significant first (DEDUCED, log 36). -/
def bitsOf : Nat → Nat → List Bool
  | 0, _ => []
  | n + 1, v => v.testBit n :: bitsOf n v

/-- Bits packed into bytes from bit 7 of each down, the last padded with zero bits (DEDUCED, log 36). -/
def packBits : List Bool → List Byte
  | [] => []
  | a :: b :: c :: d :: e :: f :: g :: h :: rest => byteOf [a, b, c, d, e, f, g, h] :: packBits rest
  | last => [byteOf (last ++ List.replicate (8 - last.length) false)]
where
  /-- Eight bits, most significant first. -/
  byteOf (bits : List Bool) : Byte := BitVec.ofNat 8 (bits.foldl (fun n b => 2 * n + b.toNat) 0)

/-- The bits of a run of bytes, from bit 7 of each down (DEDUCED, log 36). -/
def unpackBits (bytes : List Byte) : List Bool := bytes.flatMap fun b => bitsOf 8 b.toNat

/-- The value of a run of bits, most significant first (DEDUCED, log 36). -/
def bitsValue (bits : List Bool) : Nat := bits.foldl (fun n b => 2 * n + b.toNat) 0

/-- The first n picture codes of a run of bits, 36 bits each (Table 12-2). -/
def pixelsOfBits : Nat → List Bool → List Rgb
  | 0, _ => []
  | n + 1, bits =>
    { r := bitsValue (bits.take 12), g := bitsValue ((bits.drop 12).take 12)
      b := bitsValue ((bits.drop 24).take 12) } :: pixelsOfBits n (bits.drop 36)

/-- R181: the pixels a run of pixel bytes carries, floor(8 × bytes ÷ 36) of them. -/
def pixelsCarried (bytes : List Byte) : List Rgb := pixelsOfBits (8 * bytes.length / 36) (unpackBits bytes)

/-! ## Forward lane (Tables 12-1 to 12-3) -/

/-- Table 12-1. -/
def markerBytes (seq width height : BitVec 16) : List Byte :=
  1 :: (be2 seq.toNat ++ be2 width.toNat ++ be2 height.toNat)

/-- Table 12-2. -/
def lineBytes (line count : BitVec 16) (pixels : List Byte) (check : BitVec 16) : List Byte :=
  2 :: (be2 line.toNat ++ be2 count.toNat ++ pixels ++ be2 check.toNat)

/-! ## Return lane (Tables 12-4 to 12-6) -/

/-- Table 12-6. -/
def Result.code : Result → Byte
  | .ok => 0x00
  | .okLate => 0x01
  | .accepted => 0x02
  | .badCommand => 0x81
  | .badLength => 0x82
  | .denied => 0x83
  | .badArgument => 0x84
  | .busy => 0x87
  | .inUse => 0x88
  | .duplicate => 0x89
  | .conflict => 0x8A
  | .full => 0x8B
  | .notFound => 0x8C
  | .notReady => 0x8D

/-- Table 12-4. -/
def ReturnPacket.bytes : ReturnPacket → List Byte
  | .reply source status code tag result data =>
    withCheck ([0x81, source, status, code, tag, result.code] ++ be2 data.length ++ data)
  | .notice source status groups => withCheck [0x82, source, status, groups]

/-! ## Chain ports and light lines (Tables 12-9, 12-10) -/

/-- The probe request. -/
def probeRequest : List Byte := [0xC1, 0]

/-- The enumerate request. -/
def enumerateRequest : List Byte := [0xC2]

/-- A line to a tile: position, tile line, the drive codes at depth n. -/
def tileLineBytes (position v depth : Nat) (codes : List Rgb) : List Byte :=
  withCheck ([0xC4, BitVec.ofNat 8 position] ++ be2 v
    ++ packBits (codes.flatMap fun c => bitsOf depth c.r ++ bitsOf depth c.g ++ bitsOf depth c.b))

/-- Table 12-10: a level packet. -/
def levelPacket (line : Nat) (slots : List Byte) (frame : BitVec 32) : List Byte :=
  withCheck ([0xD1, BitVec.ofNat 8 line] ++ be2 slots.length ++ [frame.setWidth 8] ++ slots)

/-! ## Codes of named values (R183) -/

/-- R7's order. -/
def PageRole.code : PageRole → Nat
  | .free => 0 | .write => 1 | .latest => 2 | .read => 3

/-- R1's order. -/
def Assembly.code : Assembly → Nat
  | .idle => 0 | .open => 1 | .rejected => 2

/-- Table 1-3's order. -/
def InputState.code : InputState → Nat
  | .none => 0 | .live => 1 | .lossHold => 2 | .lossFill => 3

/-- Table 12-11. -/
def LossAction.code : LossAction → Nat
  | .hold => 0 | .fill => 1

/-- R13's order. -/
def RefState.code : RefState → Nat
  | .unlocked => 0 | .locked => 1 | .lost => 2

/-- Table 12-7. -/
def Orientation.code : Orientation → Nat
  | .normal => 0 | .rot180 => 1 | .mirrorH => 2 | .mirrorV => 3

/-- R28's order. -/
def StagedState.code : StagedState → Nat
  | .editing => 0 | .checking => 1 | .checked => 2

/-- R61's order. -/
def SlotStatus.code : SlotStatus → Nat
  | .mapped => 0 | .mismatch => 1 | .unmapped => 2 | .absent => 3 | .empty => 4

/-- Table 3-1's order. -/
def PortState.code : PortState → Nat
  | .off => 0 | .probe => 1 | .enumerate => 2 | .run => 3 | .failed => 4

/-- Table 12-11. -/
def Recovery.code : Recovery → Nat
  | .auto => 0 | .latched => 1

/-- Table 12-11. -/
def Response.code : Response → Nat
  | .zone => 0 | .global => 1

/-- Table 6-2's order. -/
def ZoneState.code : ZoneState → Nat
  | .normal => 0 | .warm => 1 | .hot => 2 | .shutdown => 3

/-- Table 12-7. -/
def FootprintKind.code : FootprintKind → Nat
  | .dim8 => 0 | .dim16 => 1 | .rgb8 => 2 | .rgbi8 => 3 | .rgb16 => 4

/-- Table 12-8. -/
def Trigger.code : Trigger → Nat
  | .atFrame _ => 0 | .next => 1 | .onTally _ => 2

/-- Table 8-3's order. -/
def Scene.code : Scene → Nat
  | .empty => 0 | .building .. => 1 | .ready _ => 2

/-! ## Records in reply data (R181, log 18) -/

/-- A counter and its overflow flag. -/
def Counter.bytes (c : Counter) : List Byte := be2 c.value ++ yesNo c.overflow

/-- Table 12-7: a tile map entry. -/
def TileEntry.bytes (t : TileEntry) : List Byte :=
  yesNo t.present ++ be1 t.typeId ++ signed2 t.x ++ signed2 t.y ++ be1 t.orientation.code ++ be1 t.profile
    ++ be1 t.curve ++ be1 t.zone ++ zeros 6

/-- Table 12-7: a region. -/
def Region.bytes (r : Region) : List Byte := signed2 r.x ++ signed2 r.y ++ be2 r.width ++ be2 r.height

/-- Table 12-7: a tile type entry; an undefined entry has every field 0 (R25). -/
def tileTypeBytes (id : Nat) : Option TileType → List Byte
  | some t => be1 id ++ yesNo true ++ be2 t.code.toNat ++ be2 t.width ++ be2 t.height ++ be1 t.depth ++ rgb2 t.k
  | none => be1 id ++ zeros 14

/-- R40: the last check result record. TILES and CURVES take their codes of Table 12-11. -/
def CheckResult.bytes : CheckResult → List Byte
  | .none => be1 0 ++ zeros 6
  | .passed => be1 1 ++ zeros 6
  | .failed (.undefinedType slot) => [2, 1, 0, 1, BitVec.ofNat 8 slot, 1, 0]
  | .failed (.decreasing curve) => [2, 1, 2, 1, BitVec.ofNat 8 curve, 1, 1]
  | .abandoned => be1 3 ++ zeros 6

/-- Table 3-3. -/
def Identity.bytes (i : Identity) : List Byte :=
  be2 i.code.toNat ++ be4 i.serial.toNat ++ be2 i.width ++ be2 i.height ++ be1 i.depth

/-- R181: a temperature in two bytes, 0x7FFF for the no-reading mark. -/
def temperatureBytes : Option Int → List Byte
  | some t => signed2 t
  | none => [0x7F, 0xFF]

/-- R64: one position's report, count and silent mark. -/
def Position.bytes (p : Position) : List Byte :=
  optional 2 (fun r : TileReport => temperatureBytes r.reading) p.last
    ++ be1 ((p.last.map TileReport.errors).getD 0)
    ++ be1 p.since ++ yesNo p.silent

/-- R110: a zone record. -/
def Zone.bytes (z : Zone) : List Byte :=
  be1 z.state.code ++ optional 2 signed2 z.temp ++ be1 z.members ++ be1 z.warm ++ be1 z.hot ++ be1 z.shut
    ++ be1 z.down ++ be2 z.scale

/-- Table 12-8: one LIGHT_FADE entry. -/
def FadeAction.bytes (f : FadeAction) : List Byte := be1 f.scene ++ be2 f.mask.toNat ++ be2 f.frames

/-- A target and a ramp length, 0 when the action is absent. -/
def masterBytes : Option MasterAction → List Byte
  | some m => be2 m.target ++ be2 m.frames
  | none => zeros 4

/-- Table 12-8: byte 9, the actions present. -/
def Cue.actionBits (c : Cue) : Nat :=
  c.rep.isSome.toNat + 2 * c.swapLook.toNat + 4 * c.master.isSome.toNat + 8 * c.follow.isSome.toNat
    + 16 * c.lightMaster.isSome.toNat

/-- Table 12-8: the trigger frame, 0 but for AT_FRAME. -/
def Trigger.frameBytes : Trigger → List Byte
  | .atFrame n => be2 0 ++ be4 n.toNat
  | .next => zeros 6
  | .onTally _ => zeros 6

/-- R114: the edge mark, kept for ON_TALLY only. -/
def Trigger.edgeMark : Trigger → Bool
  | .onTally edge => edge
  | .atFrame _ => false
  | .next => false

/-- Table 12-8: the repeat's period and count, 0 when absent. -/
def repeatBytes : Option CueRepeat → List Byte
  | some r => be2 r.period ++ be1 r.count
  | none => zeros 3

/-- Table 12-8: the FOLLOW action, 0 when absent. -/
def followBytes : Option FollowAction → List Byte
  | some f => be2 f.mask.toNat ++ yesNo f.on
  | none => zeros 3

/-- R126, R183: a cue record of Table 12-8, its absent fields 0, then the edge mark and the remaining count. -/
def Cue.bytes (c : Cue) : List Byte :=
  be2 c.id ++ be1 c.trigger.code ++ c.trigger.frameBytes ++ be1 c.actionBits ++ repeatBytes c.rep
    ++ masterBytes c.master ++ be1 c.fades.length ++ c.fades.flatMap FadeAction.bytes
    ++ zeros (5 * (4 - c.fades.length)) ++ followBytes c.follow ++ masterBytes c.lightMaster
    ++ yesNo c.trigger.edgeMark ++ be1 ((c.rep.map CueRepeat.remaining).getD 0)

/-- R144: a running fade's start, target, total and elapsed. -/
def Fade.bytes (f : Fade) : List Byte := be2 f.start ++ be2 f.target ++ be2 f.total ++ be2 f.elapsed

/-- R144: an attribute's current and, when it runs, its fade. -/
def Attr.bytes (a : Attr) : List Byte := be2 a.current ++ optional 8 Fade.bytes a.fade

/-- R144: every field of Table 8-1, then the attributes. -/
def Fixture.bytes (number : Nat) (f : Fixture) : List Byte :=
  be1 number ++ yesNo f.present ++ be1 f.line ++ be2 f.base ++ be1 f.kind.code ++ be2 f.groups.toNat
    ++ be1 (f.region.getD 0xFF) ++ be2 f.gain ++ be2 f.rate ++ yesNo f.followOn
    ++ f.i.bytes ++ f.r.bytes ++ f.g.bytes ++ f.b.bytes

/-- R144: a master's target, j and N, or no ramp. -/
def Ramp.bytes (r : Ramp) : List Byte :=
  optional 6 (fun x : Ramp => be2 x.target ++ be2 x.taken ++ be2 x.total) (if r.active then some r else none)

/-- Table 12-7: the attribute mask of a scene entry. -/
def SceneEntry.maskBits (e : SceneEntry) : Nat :=
  e.i.isSome.toNat + 2 * e.r.isSome.toNat + 4 * e.g.isSome.toNat + 8 * e.b.isSome.toNat

/-- Table 12-7: a scene entry; a value outside the mask is sent as 0. -/
def SceneEntry.bytes (e : SceneEntry) : List Byte :=
  be1 e.fixture ++ be1 e.maskBits ++ be2 (e.i.getD 0) ++ be2 (e.r.getD 0) ++ be2 (e.g.getD 0) ++ be2 (e.b.getD 0)

end Sys2Proof.Machine
end

