-- ==== Sys2Proof/Machine/PowerOn.lean ====
section
/-! DEFINITION. The value of each block after power-on reset, as its chapter states it. -/

namespace Sys2Proof.Machine

/-- R7: a page never written. -/
def Page.blank : Page := { role := .free, size := none, seq := none, base := Rgb.all 0, lines := [] }

/-- Table 2-4: an absent entry with every field 0. -/
def TileEntry.blank : TileEntry :=
  { present := false, typeId := 0, x := 0, y := 0, orientation := .normal, profile := 0, curve := 0, zone := 0 }

/-- Table 2-4: pk = 2048·k for k = 0–31, p32 = 65535. -/
def Look.defaultCurve : Vector Nat 33 := Vector.ofFn fun k => if k.val = 32 then 65535 else 2048 * k.val

/-- R24: an undefined region at the origin. -/
def Region.blank : Region := { x := 0, y := 0, width := 0, height := 0 }

/-- R26, Table 2-4. -/
def Look.default : Look :=
  { tiles := Vector.replicate 128 TileEntry.blank
    profiles := Vector.replicate 64 (Rgb.all 32768)
    curves := Vector.replicate 8 Look.defaultCurve
    regions := Vector.replicate 16 Region.blank
    border := Rgb.all 0
    label := 0 }

/-- R83: the latch after power-on reset. -/
def FrameLatch.powerOn : FrameLatch :=
  { source := .none, raster := none, fill := Rgb.all 0, look := Look.default, types := Vector.replicate 8 none
    status := Vector.replicate 128 .empty, master := 4096, zoneScale := Vector.replicate 16 4096
    limiter := Vector.replicate 8 0, composite := Vector.replicate 16 4096 }

/-- R52: a position with nothing reported. -/
def Position.blank : Position := { last := none, since := 0, silent := false, fresh := false }

/-- R47, Table 3-2. -/
def ChainPort.powerOn : ChainPort :=
  { state := .off
    config := { enable := false, recovery := .auto, holdoff := 25, silentLimit := 8, budget := 65535, releaseStep := 64 }
    roster := [], stale := false, reports := Vector.replicate 16 Position.blank, windowOpen := false
    newlyEnabled := false, answered := false, collection := [], overlong := false, holdoffCount := 0
    linkErrors := Counter.zero, enumFails := Counter.zero, silentEvents := Counter.zero }

/-- R84, R142: no ramp. -/
def Ramp.none : Ramp := { active := false, start := 0, target := 0, total := 0, taken := 0 }

/-- R97, Table 6-1. -/
def ThermalConfig.powerOn : ThermalConfig :=
  { warnLow := 65, warnHigh := 75, shutdown := 90, hysteresis := 5, deglitch := 3, derate := 2048
    recoveryStep := 128, response := .zone, recovery := .latched }

/-- R97. -/
def Zone.powerOn : Zone :=
  { state := .normal, temp := none, members := 0, warm := 0, hot := 0, shut := 0, down := 0, scale := 4096 }

/-- R135: an attribute at 0 with no fade. -/
def Attr.zero : Attr := { current := 0, fade := none }

/-- Table 8-1, R130. -/
def Fixture.powerOn : Fixture :=
  { present := false, line := 0, base := 1, kind := .dim8, groups := 0, region := none, gain := 4096, rate := 256
    followOn := false, i := Attr.zero, r := Attr.zero, g := Attr.zero, b := Attr.zero }

/-- R146: a running record of sums 0 and count 0. -/
def RegionSum.zero : RegionSum := { sum := Rgb.all 0, count := 0 }

/-- R159. -/
def FollowBlock.powerOn : FollowBlock :=
  { running := Vector.replicate 16 RegionSum.zero, published := Vector.replicate 16 none
    values := Vector.replicate 96 (Rgb.all 0), lines := Vector.replicate 4 { enable := false, slots := 320 }
    images := Vector.replicate 4 (Vector.replicate 320 0) }

/-- R172, Table 10-1: slot 0 is 0x40 plus the ADDR strap. -/
def Intake.powerOn (addrStrap : BitVec 6) : Intake :=
  { slot0 := 0x40 + addrStrap.setWidth 8, slot1 := none, slot2 := none, slot3 := none, mask := 0xFF, queue := []
    executor := .idle, framing := Counter.zero, check := Counter.zero, misplaced := Counter.zero
    intakeFull := Counter.zero, repliesDropped := Counter.zero }

/-- R169, R172. -/
def Merger.powerOn : Merger :=
  { own := [], reserved := 0, pass := [], last := .pass, sending := none, drops := Counter.zero }

/-- R180. -/
def EventUnit.powerOn : EventUnit :=
  { flags := 0, groups := 0, enables := 0, countThreshold := 1, frameThreshold := 1, pending := 0, frames := 0
    due := false }

/-- Nothing sent. -/
def Output.blank : Output :=
  { through := [], upstream := [], chains := Vector.replicate 8 [], lights := Vector.replicate 4 none }

/-- R1, R21: no input frame open. -/
def LinkReceiver.powerOn : LinkReceiver := { assembly := .idle, good := [], lineBad := Counter.zero }

/-- R7, R8, R10, R11, R18, R21. -/
def FrameStore.powerOn : FrameStore :=
  { pages := Vector.replicate 3 Page.blank, everRead := false, repeats := 0, inputState := .none
    lossActive := false, missingLimit := 8, holdLimit := 5, lossAction := .hold, fill := Rgb.all 0
    dropped := Counter.zero, repeated := Counter.zero, bad := Counter.zero }

/-- R13, R21: the rate code is the RATE strap. -/
def Timing.powerOn (rateStrap : BitVec 3) : Timing :=
  { ref := .unlocked, rate := rateStrap, pendingRate := none, frame := 0, phase := .notBegun, held := false }

/-- R46. Bank 0 is ACTIVE (DESIGN CHOICE, log 26: of no consequence, both hold the default look). -/
def LookStore.powerOn : LookStore :=
  { bank0 := Look.default, bank1 := Look.default, activeIsBank1 := false, staged := .checked, result := .none
    checkEnds := 0, types := Vector.replicate 8 none }

/-- R89: scale 0, accumulator 0, not measured. -/
def Limiter.powerOn : Limiter := { scale := 0, acc := 0, measured := false }

/-- R96. -/
def Power.powerOn : Power := { master := 4096, ramp := Ramp.none, limiters := Vector.replicate 8 Limiter.powerOn }

/-- R112. -/
def Thermal.powerOn : Thermal := { config := ThermalConfig.powerOn, zones := Vector.replicate 16 Zone.powerOn }

/-- R129. -/
def CueEngine.powerOn : CueEngine :=
  { queue := [], ended := none, lastFired := 0, lastSkipped := none, guard := false }

/-- R145. -/
def Lights.powerOn : Lights :=
  { fixtures := Vector.replicate 96 Fixture.powerOn, scenes := Vector.replicate 64 .empty, master := 4096
    ramp := Ramp.none }

end Sys2Proof.Machine
end

