-- ==== Sys2Proof/Machine/State.lean ====
section
/-! DEFINITION. The state of the part (its blocks stand in Blocks.lean), the reasons a step can stop, and the state
after reset. -/

namespace Sys2Proof.Machine

/-- The whole part: the blocks of 00 Table 2-1, and the model's own fields. -/
structure State where
  pins : Pins
  link : LinkReceiver
  store : FrameStore
  timing : Timing
  looks : LookStore
  comp : FrameLatch
  ports : Vector ChainPort 8
  power : Power
  thermal : Thermal
  cues : CueEngine
  lights : Lights
  follow : FollowBlock
  intake : Intake
  ret : Merger
  events : EventUnit
  out : Output
  /-- The index at which the next free value of Config is read (the model's own, log 14). -/
  freeIndex : Nat
  /-- The rows waiting, first in, first out (the model's own). -/
  pending : List Instr
  deriving DecidableEq, Repr

/-- Why a step of the part stops with a fault. The manual describes no event that stops the part (its faults are
conditions of State), so there is no constructor: no step faults (safe). -/
inductive Fault where
  deriving DecidableEq, Repr

/-- Why a step is refused. -/
inductive Refusal where
  /-- Raised by an arm of exec that has no meaning yet, and by nothing else (safe). No arm raises it now. -/
  | notModelled (mnemonic : String)
  deriving DecidableEq, Repr

/-- The part right after power-on reset, for given levels of its pins (R21, R46, R66, R83, R96, R112, R129, R145,
R159, R172, R180). -/
def State.powerOn (pins : Pins) : State :=
  { pins := pins
    link := LinkReceiver.powerOn
    store := FrameStore.powerOn
    timing := Timing.powerOn pins.rateStrap
    looks := LookStore.powerOn
    comp := FrameLatch.powerOn
    ports := Vector.replicate 8 ChainPort.powerOn
    power := Power.powerOn
    thermal := Thermal.powerOn
    cues := CueEngine.powerOn
    lights := Lights.powerOn
    follow := FollowBlock.powerOn
    intake := Intake.powerOn pins.addrStrap
    ret := Merger.powerOn
    events := EventUnit.powerOn
    out := Output.blank
    freeIndex := 0
    pending := [] }

/-- The part right after power-on reset with its straps at 0 and TALLY low (DESIGN CHOICE, log 11) and nothing
waiting. -/
def State.reset : State := State.powerOn { addrStrap := 0, rateStrap := 0, tally := false }

end Sys2Proof.Machine
end

