-- ==== Sys2Proof/Machine/Ops.lean ====
section
/-! DEFINITION. The named operations that every chapter shares: places of a table, counters, master ramps, the named
updates of State, and the return merger with its queues. -/

namespace Sys2Proof.Machine

/-! ## Tables of a fixed size -/

/-- One entry of a table put through f. -/
def modifyAt {α : Type} {n : Nat} (v : Vector α n) (i : Fin n) (f : α → α) : Vector α n := v.set i (f v[i])

/-- Every entry of a table put through f. -/
def mapAll {α β : Type} {n : Nat} (f : α → β) (v : Vector α n) : Vector β n := Vector.ofFn fun i => f v[i]

/-- A table with the entries `xs` from place `first` on; every other place keeps its entry (R29, R30, R32). -/
def writeRun {α : Type} {n : Nat} (v : Vector α n) (first : Nat) (xs : List α) : Vector α n :=
  Vector.ofFn fun i => if first ≤ i.val then (xs[i.val - first]?).getD v[i] else v[i]

/-- The entries of a table from place `first`, `count` of them. -/
def readRun {α : Type} {n : Nat} (v : Vector α n) (first count : Nat) : List α := (v.toList.drop first).take count

/-- The places of a table whose entry satisfies p, in order. -/
def placesWhere {α : Type} {n : Nat} (p : α → Bool) (v : Vector α n) : List (Fin n) :=
  (List.finRange n).filter fun i => p v[i]

/-! ## Counters (R179) -/

/-- An increment by n: the counter stops at 65535 and sets its overflow flag on reaching it. -/
def Counter.add (c : Counter) (n : Nat) : Counter :=
  { value := min Config.counterMax (c.value + n), overflow := c.overflow || Config.counterMax ≤ c.value + n }

/-- An increment by one. -/
def Counter.inc (c : Counter) : Counter := c.add 1

/-! ## Values that move in steps (R87, R141, R143) -/

/-- start + trunc((target − start)·j / n). -/
def interpolate (start target j n : Nat) : Nat := ((start : Int) + Int.tdiv (((target : Int) - start) * j) n).toNat

/-- R84, R142: a ramp begun from the value a master has now. -/
def Ramp.begin (value target frames : Nat) : Ramp :=
  { active := true, start := value, target := target, total := frames, taken := 0 }

/-- R87, R143: the master's value after a step of an active ramp. -/
def Ramp.value (r : Ramp) (value : Nat) : Nat :=
  if r.active then
    if r.total ≤ r.taken + 1 then r.target else interpolate r.start r.target (r.taken + 1) r.total
  else value

/-- R87, R143: the ramp record after a step; with N = 0, j is taken as equal to N. -/
def Ramp.step (r : Ramp) : Ramp :=
  if r.active then
    { r with active := decide (r.taken + 1 < r.total), taken := if r.total = 0 then 0 else r.taken + 1 }
  else r

/-- R88, R145: a ramp ended by a reset; the master keeps its value. -/
def Ramp.freeze (r : Ramp) : Ramp := { r with active := false }

/-! ## Named updates of State -/

/-- One chain port put through f. -/
def State.modifyPort (s : State) (c : Fin 8) (f : ChainPort → ChainPort) : State :=
  { s with ports := modifyAt s.ports c f }

/-- One zone put through f. -/
def State.modifyZone (s : State) (z : Fin 16) (f : Zone → Zone) : State :=
  { s with thermal := { s.thermal with zones := modifyAt s.thermal.zones z f } }

/-- One chain's limiter put through f. -/
def State.modifyLimiter (s : State) (c : Fin 8) (f : Limiter → Limiter) : State :=
  { s with power := { s.power with limiters := modifyAt s.power.limiters c f } }

/-- One fixture put through f. -/
def State.modifyFixture (s : State) (x : Fin 96) (f : Fixture → Fixture) : State :=
  { s with lights := { s.lights with fixtures := modifyAt s.lights.fixtures x f } }

/-- One follow value set. -/
def State.setFollowValue (s : State) (x : Fin 96) (v : Rgb) : State :=
  { s with follow := { s.follow with values := s.follow.values.set x v } }

/-- One scene set. -/
def State.setScene (s : State) (x : Fin 64) (sc : Scene) : State :=
  { s with lights := { s.lights with scenes := s.lights.scenes.set x sc } }

/-- R165: the executor state set. -/
def State.setExecutor (s : State) (x : ExecutorState) : State := { s with intake := { s.intake with executor := x } }

/-- The event unit replaced. -/
def State.setEvents (s : State) (u : EventUnit) : State := { s with events := u }

/-- R1, R162: a forward-lane packet passed on to the through link. -/
def State.passOn (s : State) (packet : List Byte) : State :=
  { s with out := { s.out with through := s.out.through ++ [packet] } }

/-- R27: the bank in the ACTIVE role. -/
def LookStore.active (l : LookStore) : Look := if l.activeIsBank1 then l.bank1 else l.bank0

/-- R27: the bank in the STAGED role. -/
def LookStore.stagedLook (l : LookStore) : Look := if l.activeIsBank1 then l.bank0 else l.bank1

/-- The content of the STAGED bank replaced. -/
def LookStore.setStaged (l : LookStore) (look : Look) : LookStore :=
  if l.activeIsBank1 then { l with bank0 := look } else { l with bank1 := look }

/-! ## The return merger (R168, R169) -/

/-- R168: the slots of the own queue that are neither reserved nor holding a packet. -/
def Merger.free (m : Merger) : Nat := Config.ownSize - (m.own.length + m.reserved)

/-- R165: the oldest command of the intake queue is direct. -/
def Intake.headDirect (i : Intake) : Bool :=
  match i.queue with
  | e :: _ => e.kind == .direct
  | [] => false

/-- R165: the executor looks at the oldest command, and becomes WAITING when it is direct and no slot is free. -/
def lookIntake (s : State) : State :=
  if s.intake.headDirect && s.ret.free == 0 then s.setExecutor .waiting else s

/-- R169: the packet starts being sent from the queue named, and the queue's rest stays. -/
def sendFrom (s : State) (source : ReturnSource) (packet : List Byte) (own : List ReturnPacket)
    (pass : List (List Byte)) : State :=
  { s with
    ret := { s.ret with own := own, pass := pass, last := source, sending := some packet }
    out := { s.out with upstream := s.out.upstream ++ [packet] } }

/-- R169: when the lane is idle and either queue holds a packet, the arbiter starts sending at once; with both
holding one, it takes the queue not named by the last-source mark. -/
def startSend (s : State) : State :=
  match s.ret.sending, s.ret.own, s.ret.pass with
  | some _, _, _ => s
  | none, [], [] => s
  | none, p :: own, [] => sendFrom s .own p.bytes own []
  | none, [], q :: pass => sendFrom s .pass q [] pass
  | none, p :: own, q :: pass =>
    match s.ret.last with
    | .pass => sendFrom s .own p.bytes own (q :: pass)
    | .own => sendFrom s .pass q (p :: own) pass

/-- R168: a packet of this part placed in the own queue; the arbiter and the executor see it at once. -/
def placeOwn (p : ReturnPacket) (s : State) : State :=
  lookIntake (startSend { s with ret := { s.ret with own := s.ret.own ++ [p] } })

end Sys2Proof.Machine
end

