-- ==== Sys2Proof/Machine/Flags.lean ====
section
/-! DEFINITION. The event unit's flags: the 24 source flags and their groups, the raising of an event, the notice
coalescer, the status byte, and the steps of a frame end with the coalescer's count among them (R173, R175, R176, R177). -/

namespace Sys2Proof.Machine

/-- The seven groups of Table 11-1, in the bit order of Table 12-5. -/
inductive Group where
  | input | look | cue | chain | heat | power | light
  deriving DecidableEq, Repr

/-- Table 12-5. -/
def Group.bit : Group → Nat
  | .input => 0 | .look => 1 | .cue => 2 | .chain => 3 | .heat => 4 | .power => 5 | .light => 6

/-- The 24 events of Table 11-1, in table order. -/
inductive Source where
  | formatRejected | inputLoss | inputRestored | refLoss | refRestored
  | checkDone | swapDone | swapSkipped
  | cueFired | cueLate | cueActionSkipped
  | chainUp | chainFailed | rosterChanged | rosterOverlong | rosterStale | tileMismatch
  | zoneWarm | zoneHot | zoneShutdown | tileSilent
  | limiting | powerHeavy
  | sceneReady
  deriving DecidableEq, Repr

/-- Table 12-11: a source flag's place in the CLEAR_EVENTS mask, its place in Table 11-1. -/
def Source.bit : Source → Nat
  | .formatRejected => 0 | .inputLoss => 1 | .inputRestored => 2 | .refLoss => 3 | .refRestored => 4
  | .checkDone => 5 | .swapDone => 6 | .swapSkipped => 7
  | .cueFired => 8 | .cueLate => 9 | .cueActionSkipped => 10
  | .chainUp => 11 | .chainFailed => 12 | .rosterChanged => 13 | .rosterOverlong => 14 | .rosterStale => 15
  | .tileMismatch => 16
  | .zoneWarm => 17 | .zoneHot => 18 | .zoneShutdown => 19 | .tileSilent => 20
  | .limiting => 21 | .powerHeavy => 22
  | .sceneReady => 23

/-- Table 11-1: an event's group. -/
def Source.group : Source → Group
  | .formatRejected | .inputLoss | .inputRestored | .refLoss | .refRestored => .input
  | .checkDone | .swapDone | .swapSkipped => .look
  | .cueFired | .cueLate | .cueActionSkipped => .cue
  | .chainUp | .chainFailed | .rosterChanged | .rosterOverlong | .rosterStale | .tileMismatch => .chain
  | .zoneWarm | .zoneHot | .zoneShutdown | .tileSilent => .heat
  | .limiting | .powerHeavy => .power
  | .sceneReady => .light

/-- The source flags of a group, as a mask. -/
def Group.sources : Group → BitVec 24
  | .input => 0x00001F#24
  | .look => 0x0000E0#24
  | .cue => 0x000700#24
  | .chain => 0x01F800#24
  | .heat => 0x1E0000#24
  | .power => 0x600000#24
  | .light => 0x800000#24

/-- One flag of 24. -/
def Source.mask (e : Source) : BitVec 24 := 1#24 <<< e.bit

/-- One flag of seven. -/
def Group.mask (g : Group) : BitVec 7 := 1#7 <<< g.bit

/-- The flag of an event is set. -/
def EventUnit.has (u : EventUnit) (e : Source) : Bool := u.flags.getLsbD e.bit

/-- A group is enabled for notices. -/
def EventUnit.enabled (u : EventUnit) (g : Group) : Bool := u.enables.getLsbD g.bit

/-! ## The status byte (R177) -/

/-- R56: a chain port in FAILED. -/
def anyFailed (s : State) : Bool := s.ports.toList.any fun p => p.state == .failed

/-- R111: a zone in SHUTDOWN. -/
def anyShutdown (zones : Vector Zone 16) : Bool := zones.toList.any fun z => z.state == .shutdown

/-- R177: any fault condition. -/
def faultPresent (s : State) : Bool := anyFailed s || anyShutdown s.thermal.zones || s.store.lossActive

/-- R111: a zone in WARM or HOT. -/
def zoneWarning (s : State) : Bool := s.thermal.zones.toList.any fun z => z.state == .warm || z.state == .hot

/-- R55: a position marked SILENT on a chain in RUN. -/
def silentWarning (s : State) : Bool :=
  s.ports.toList.any fun p => p.state == .run && p.reports.toList.any Position.silent

/-- R95: a chain in RUN with limiter scale below 4096. -/
def limitingWarning (s : State) : Bool :=
  (List.finRange 8).any fun c => s.ports[c].state == .run && decide (s.power.limiters[c].scale < 4096)

/-- R177: any warning condition; REF_LOSS is active while the reference state is LOST (R15). -/
def warningPresent (s : State) : Bool :=
  zoneWarning s || silentWarning s || limitingWarning s || s.timing.ref == .lost

/-- The groups of Table 11-1. -/
def Group.all : List Group := [.input, .look, .cue, .chain, .heat, .power, .light]

/-- R177: any source flag of an enabled group is set. -/
def attention (u : EventUnit) : Bool := Group.all.any fun g => u.enabled g && u.flags &&& g.sources != 0

/-- One bit of the status byte. -/
def statusBit (b : Bool) (n : Nat) : Byte := if b then 1#8 <<< n else 0

/-- R177, Table 12-5: the status byte. -/
def statusByte (s : State) : Byte :=
  statusBit (attention s.events) 7 ||| statusBit (faultPresent s) 6 ||| statusBit (warningPresent s) 5
    ||| statusBit (s.looks.staged == .checked) 4 ||| statusBit (s.looks.staged == .checking) 3
    ||| statusBit s.pins.tally 2

/-! ## Notices (R175, R176) -/

/-- R176: the coalescing state after a notice has been queued. -/
def EventUnit.noticeSent (u : EventUnit) : EventUnit := { u with groups := 0, pending := 0, frames := 0, due := false }

/-- R175: the pending count or the frame count has reached its threshold. -/
def EventUnit.reached (u : EventUnit) : Bool :=
  decide (u.countThreshold ≤ u.pending) || decide (u.frameThreshold ≤ u.frames)

/-- R175: the due mark is set when a threshold is reached, and stays set. -/
def EventUnit.testDue (u : EventUnit) : EventUnit := { u with due := u.due || u.reached }

/-- R175: the frame count goes up by one when the pending count is above 0. -/
def EventUnit.countFrame (u : EventUnit) : EventUnit :=
  if u.pending = 0 then u else { u with frames := min 255 (u.frames + 1) }

/-- R173: the source flag of an event is set. -/
def EventUnit.setFlag (u : EventUnit) (e : Source) : EventUnit := { u with flags := u.flags ||| e.mask }

/-- R173, R175: a group raising sets the group flag and adds one to the pending count. -/
def EventUnit.raiseGroup (u : EventUnit) (g : Group) : EventUnit :=
  { u with groups := u.groups ||| g.mask, pending := min 255 (u.pending + 1) }

/-- R176: a notice placed in the own queue; the coalescing state is cleared. -/
def queueNotice (s : State) : State :=
  placeOwn (.notice s.intake.slot0 (statusByte s) (s.events.groups.setWidth 8)) (s.setEvents s.events.noticeSent)

/-- R176: a due notice takes a free own-queue slot, when one is free. -/
def tryNotice (s : State) : State := if s.events.due && s.ret.free != 0 then queueNotice s else s

/-- R175: the due test; a notice that becomes due is queued at once when a slot is free (R176). -/
def dueTest (s : State) : State := tryNotice (s.setEvents s.events.testDue)

/-- R175: the event unit's count at an output frame end, and the due test after it. -/
def countFrame (s : State) : State := dueTest (s.setEvents s.events.countFrame)

/-! ## A frame end being worked off (R175) -/

/-- An output frame end in progress: the state so far, and how many further steps of the other blocks come before the
event unit's count; none once it has counted. -/
structure EndWork where
  state : State
  left : Option Nat

/-- One step of a block at a frame end, the event unit's count before it when its turn has come. A step raises at most
one event, so that the count can fall before or after every raising (R175, log 8). -/
def EndWork.act (w : EndWork) (f : State → State) : EndWork :=
  match w.left with
  | some 0 => { state := f (countFrame w.state), left := none }
  | some (n + 1) => { state := f w.state, left := some n }
  | none => { state := f w.state, left := none }

/-- Steps one after another. -/
def EndWork.actAll (w : EndWork) (fs : List (State → State)) : EndWork := fs.foldl EndWork.act w

/-- The state when every block has done its work; the event unit counts last when it has not counted yet. -/
def EndWork.finish (w : EndWork) : State :=
  match w.left with
  | some _ => countFrame w.state
  | none => w.state

/-! ## Raising an event (R173) -/

/-- R173: an event is raised. A flag already set makes no raising; in an enabled group the raising is a group raising,
with the due test after it. -/
def raise (e : Source) (s : State) : State :=
  if s.events.has e then s
  else if s.events.enabled e.group then dueTest (s.setEvents ((s.events.setFlag e).raiseGroup e.group))
  else s.setEvents (s.events.setFlag e)

/-- R173: an event is raised when a condition holds. -/
def raiseWhen (c : Bool) (e : Source) (s : State) : State := if c then raise e s else s

end Sys2Proof.Machine
end

