-- ==== Sys2Proof/Machine/Operands.lean ====
section
/-! DEFINITION. The operand forms of the commands: the fields of a payload (Table 12-11), the records it carries
(Tables 12-7, 12-8) with the range each field is held to, and the fields of chain-port packets (R182). A reader
answers none where a field it examines is out of range. -/

namespace Sys2Proof.Machine

/-! ## Fields of a payload -/

/-- The byte at i. -/
def u8 (p : List Byte) (i : Nat) : Nat := (p.getD i 0).toNat

/-- The two bytes at i. -/
def u16 (p : List Byte) (i : Nat) : Nat := u8 p i * 256 + u8 p (i + 1)

/-- The four bytes at i. -/
def u32 (p : List Byte) (i : Nat) : Nat := u16 p i * 65536 + u16 p (i + 2)

/-- The two bytes at i, signed. -/
def s16 (p : List Byte) (i : Nat) : Int := if u16 p i < 32768 then u16 p i else (u16 p i : Int) - 65536

/-- Two bytes as a 16-bit value. -/
def w16 (p : List Byte) (i : Nat) : BitVec 16 := BitVec.ofNat 16 (u16 p i)

/-- Three two-byte fields. -/
def rgbAt (p : List Byte) (i : Nat) : Rgb := { r := u16 p i, g := u16 p (i + 2), b := u16 p (i + 4) }

/-- R183: a yes/no byte. -/
def readYesNo (p : List Byte) (i : Nat) : Option Bool :=
  match u8 p i with
  | 0 => some false
  | 1 => some true
  | _ => none

/-- n records of a given size, each read by f; none if one of them is out of range. -/
def readRecords {α : Type} (f : List Byte → Option α) (size : Nat) : Nat → List Byte → Option (List α)
  | 0, _ => some []
  | n + 1, p =>
    match f p, readRecords f size n (p.drop size) with
    | some a, some as => some (a :: as)
    | _, _ => none

/-- A picture code with each channel at most 4095. -/
def readCode (p : List Byte) (i : Nat) : Option Rgb :=
  let c := rgbAt p i
  if c.r ≤ 4095 ∧ c.g ≤ 4095 ∧ c.b ≤ 4095 then some c else none

/-! ## Sorting the forward lane (R181) -/

/-- R181: a frame-start marker: type byte 0x01 and 7 bytes. -/
def isMarker (bytes : List Byte) : Bool := u8 bytes 0 == 1 && bytes.length == 7

/-- R181: a line packet: type byte 0x02 and at least 7 bytes. -/
def isLine (bytes : List Byte) : Bool := u8 bytes 0 == 2 && decide (7 ≤ bytes.length)

/-- R181: a margin packet: type byte 0x03. -/
def isMargin (bytes : List Byte) : Bool := u8 bytes 0 == 3

/-! ## Entries (Table 12-7) -/

/-- R22: an origin or region coordinate. -/
def coordinateOk (x : Int) : Bool := -4096 ≤ x && x ≤ 8191

/-- Table 12-7: an orientation code. -/
def orientationOf : Nat → Option Orientation
  | 0 => some .normal
  | 1 => some .rot180
  | 2 => some .mirrorH
  | 3 => some .mirrorV
  | _ => none

/-- R29: a tile map entry; bytes 10–15 are not examined (log 17). -/
def readTile (p : List Byte) : Option TileEntry :=
  match readYesNo p 0, orientationOf (u8 p 6) with
  | some present, some orientation =>
    if u8 p 1 ≤ 7 ∧ coordinateOk (s16 p 2) ∧ coordinateOk (s16 p 4) ∧ u8 p 7 ≤ 63 ∧ u8 p 8 ≤ 7 ∧ u8 p 9 ≤ 15 then
      some { present := present, typeId := u8 p 1, x := s16 p 2, y := s16 p 4, orientation := orientation
             profile := u8 p 7, curve := u8 p 8, zone := u8 p 9 }
    else none
  | _, _ => none

/-- R30: any gain value is in range. -/
def readProfile (p : List Byte) : Option Rgb := some (rgbAt p 0)

/-- R32. -/
def readRegion (p : List Byte) : Option Region :=
  if coordinateOk (s16 p 0) ∧ coordinateOk (s16 p 2) ∧ u16 p 4 ≤ 4096 ∧ u16 p 6 ≤ 4096 then
    some { x := s16 p 0, y := s16 p 2, width := u16 p 4, height := u16 p 6 }
  else none

/-- R37: the tile type of a WRITE_TILE_TYPE payload; `some none` writes the entry undefined. -/
def readTileType (p : List Byte) : Option (Option TileType) :=
  match readYesNo p 1 with
  | none => none
  | some false => some none
  | some true =>
    let k := rgbAt p 9
    if 16 ≤ u16 p 4 ∧ u16 p 4 ≤ 256 ∧ 16 ≤ u16 p 6 ∧ u16 p 6 ≤ 256 ∧ u8 p 8 ∈ [8, 10, 12, 16]
        ∧ k.r ≤ 4095 ∧ k.g ≤ 4095 ∧ k.b ≤ 4095 then
      some (some { code := w16 p 2, width := u16 p 4, height := u16 p 6, depth := u8 p 8, k := k })
    else none

/-- Table 12-11: a recovery mode code. -/
def recoveryOf : Nat → Option Recovery
  | 0 => some .auto
  | 1 => some .latched
  | _ => none

/-- R48: the chain number and the configuration of a SET_CHAIN payload. -/
def readChainConfig (p : List Byte) : Option (Fin 8 × ChainConfig) :=
  match readYesNo p 1, recoveryOf (u8 p 2) with
  | some enable, some recovery =>
    if h : u8 p 0 < 8 then
      if u8 p 3 ≠ 0 ∧ u8 p 4 ≠ 0 ∧ u16 p 7 ≠ 0 ∧ u16 p 7 ≤ 4096 then
        some (⟨u8 p 0, h⟩,
          { enable := enable, recovery := recovery, holdoff := u8 p 3, silentLimit := u8 p 4, budget := u16 p 5
            releaseStep := u16 p 7 })
      else none
    else none
  | _, _ => none

/-- R108: a threshold. -/
def thresholdOk (t : Int) : Bool := -40 ≤ t && t ≤ 150

/-- Table 12-11: a response code. -/
def responseOf : Nat → Option Response
  | 0 => some .zone
  | 1 => some .global
  | _ => none

/-- R108: the nine fields of a SET_THERMAL payload. -/
def readThermalConfig (p : List Byte) : Option ThermalConfig :=
  match responseOf (u8 p 12), recoveryOf (u8 p 13) with
  | some response, some recovery =>
    if thresholdOk (s16 p 0) ∧ thresholdOk (s16 p 2) ∧ thresholdOk (s16 p 4) ∧ u8 p 6 ≤ 63 ∧ u8 p 7 ≠ 0
        ∧ u16 p 8 ≤ 4096 ∧ u16 p 10 ≠ 0 ∧ u16 p 10 ≤ 4096 ∧ s16 p 0 < s16 p 2 ∧ s16 p 2 < s16 p 4 then
      some { warnLow := s16 p 0, warnHigh := s16 p 2, shutdown := s16 p 4, hysteresis := u8 p 6, deglitch := u8 p 7
             derate := u16 p 8, recoveryStep := u16 p 10, response := response, recovery := recovery }
    else none
  | _, _ => none

/-! ## Cue records (Table 12-8) -/

/-- R115, R117: the trigger; a trigger frame is taken modulo 2^32. -/
def readTrigger (p : List Byte) : Option Trigger :=
  match u8 p 2 with
  | 0 => some (.atFrame (BitVec.ofNat 32 (beNat ((p.drop 3).take 6))))
  | 1 => some .next
  | 2 => some (.onTally false)
  | _ => none

/-- R117: the repeat, none when absent. -/
def readRepeat (p : List Byte) : Option (Option CueRepeat) :=
  if (u8 p 9).testBit 0 then
    if u16 p 10 = 0 then none else some (some { period := u16 p 10, count := u8 p 12, remaining := u8 p 12 })
  else some none

/-- R117: a MASTER or LIGHT_MASTER action whose presence is bit k of byte 9 and whose target is at i. -/
def readMasterAction (p : List Byte) (k i : Nat) : Option (Option MasterAction) :=
  if (u8 p 9).testBit k then
    if 4096 < u16 p i then none else some (some { target := u16 p i, frames := u16 p (i + 2) })
  else some none

/-- R117: one LIGHT_FADE entry. -/
def readFade (p : List Byte) : Option FadeAction :=
  if 63 < u8 p 0 then none else some { scene := u8 p 0, mask := w16 p 1, frames := u16 p 3 }

/-- R117: the LIGHT_FADE list. -/
def readFades (p : List Byte) : Option (List FadeAction) :=
  if 4 < u8 p 17 then none else readRecords readFade 5 (u8 p 17) (p.drop 18)

/-- R117: the FOLLOW action. -/
def readFollowAction (p : List Byte) : Option (Option FollowAction) :=
  if (u8 p 9).testBit 3 then
    match readYesNo p 40 with
    | some on => some (some { mask := w16 p 38, on := on })
    | none => none
  else some none

/-- R114: at least one action is present. -/
def Cue.hasAction (c : Cue) : Bool :=
  c.swapLook || c.master.isSome || !c.fades.isEmpty || c.follow.isSome || c.lightMaster.isSome

/-- R117, R166: the cue record of an ADD_CUE payload, but for the test of its trigger frame against the output frame
number. -/
def readCue (p : List Byte) : Option Cue :=
  match readTrigger p, readRepeat p, readMasterAction p 2 13, readFades p, readFollowAction p,
    readMasterAction p 4 41 with
  | some trigger, some rep, some master, some fades, some follow, some lightMaster =>
    let cue : Cue :=
      { id := u16 p 0, trigger := trigger, rep := rep, swapLook := (u8 p 9).testBit 1, master := master
        fades := fades, follow := follow, lightMaster := lightMaster }
    if cue.id ≠ 0 ∧ u8 p 9 < 32 ∧ cue.hasAction then some cue else none
  | _, _, _, _, _, _ => none

/-! ## Fixtures and scenes (Table 12-7) -/

/-- Table 8-2: the number of slots of a kind. -/
def FootprintKind.slots : FootprintKind → Nat
  | .dim8 => 1 | .dim16 => 2 | .rgb8 => 3 | .rgbi8 => 4 | .rgb16 => 6

/-- Table 12-7: a kind code. -/
def kindOf : Nat → Option FootprintKind
  | 0 => some .dim8
  | 1 => some .dim16
  | 2 => some .rgb8
  | 3 => some .rgbi8
  | 4 => some .rgb16
  | _ => none

/-- R132: a follow region code, 0xFF for none. -/
def followRegionOf (n : Nat) : Option (Option Nat) :=
  if n ≤ 15 then some (some n) else if n = 0xFF then some none else none

/-- R132: a fixture number and the fields a WRITE_FIXTURES record carries; its attributes and follow-on flag are the
power-on ones. -/
def readFixture (p : List Byte) : Option (Fin 96 × Fixture) :=
  match kindOf (u8 p 4), followRegionOf (u8 p 7) with
  | some kind, some region =>
    if h : u8 p 0 < 96 then
      if u8 p 1 ≤ 3 ∧ 1 ≤ u16 p 2 ∧ u16 p 2 + kind.slots - 1 ≤ 320 ∧ u16 p 8 ≤ 8192 ∧ 1 ≤ u16 p 10
          ∧ u16 p 10 ≤ 256 then
        some (⟨u8 p 0, h⟩,
          { present := true, line := u8 p 1, base := u16 p 2, kind := kind, groups := w16 p 5, region := region
            gain := u16 p 8, rate := u16 p 10, followOn := false, i := { current := 0, fade := none }
            r := { current := 0, fade := none }, g := { current := 0, fade := none }
            b := { current := 0, fade := none } })
      else none
    else none
  | _, _ => none

/-- R138, R183: a scene entry; a value outside its mask is not held. -/
def readSceneEntry (p : List Byte) : Option SceneEntry :=
  let m := u8 p 1
  if u8 p 0 ≤ 95 ∧ 1 ≤ m ∧ m ≤ 15 then
    some { fixture := u8 p 0
           i := if m.testBit 0 then some (u16 p 2) else none
           r := if m.testBit 1 then some (u16 p 4) else none
           g := if m.testBit 2 then some (u16 p 6) else none
           b := if m.testBit 3 then some (u16 p 8) else none }
  else none

/-! ## Chain-port packets (R182, Table 12-9) -/

/-- An identity record whose type byte, length and check are right. -/
def readIdentityRecord (p : List Byte) : Option Identity :=
  if p.length = 14 ∧ u8 p 0 = 0xC8 ∧ checkRight p then
    some { code := w16 p 1, serial := BitVec.ofNat 32 (u32 p 3), width := u16 p 7, height := u16 p 9
           depth := u8 p 11 }
  else none

/-- R182: the reading a temperature field carries; outside −40 to 150 it is the no-reading mark. -/
def readingOf (t : Int) : Option Int := if -40 ≤ t ∧ t ≤ 150 then some t else none

/-- The position and content of a tile report whose type byte, length and check are right. -/
def readTileReport (p : List Byte) : Option (Nat × TileReport) :=
  if p.length = 7 ∧ u8 p 0 = 0xC9 ∧ checkRight p then
    some (u8 p 1, { reading := readingOf (s16 p 2), errors := u8 p 4 })
  else none

end Sys2Proof.Machine
end

