-- ==== Sys2Proof/Machine/Executor.lean ====
section
/-! DEFINITION. The command taken event: how the executor takes the oldest command, runs it and answers it (R165,
R166, R167), the catalogue of Table 10-4, and the guard (R128). -/

namespace Sys2Proof.Machine

/-- Table 10-4: the codes of the catalogue. -/
def catalogue : List Byte :=
  [0x01, 0x02, 0x03, 0x04, 0x10, 0x11, 0x12, 0x20, 0x21, 0x22, 0x23, 0x24, 0x25, 0x26, 0x27, 0x28, 0x29, 0x30, 0x31,
   0x32, 0x40, 0x48, 0x49, 0x50, 0x51, 0x52, 0x53, 0x54, 0x60, 0x61, 0x62, 0x63, 0x64, 0x65, 0x66, 0x67, 0x70, 0x71,
   0x78, 0x79, 0x7A, 0x7B]

/-- What a command leaves: the state, its result and its reply data (R166, R167). -/
structure Taken where
  state : State
  result : Result
  data : List Byte

/-- R166: a refused command changes nothing, and its reply carries no data. -/
def refuse (r : Result) (s : State) : Taken := { state := s, result := r, data := [] }

/-- A command carried out with OK and no data. -/
def done (s : State) : Taken := { state := s, result := .ok, data := [] }

/-- A command that reports and changes nothing. -/
def report (data : List Byte) (s : State) : Taken := { state := s, result := .ok, data := data }

/-- R128: the on-air guard is enabled and TALLY is high. -/
def State.onAirGuard (s : State) : Bool := s.cues.guard && s.pins.tally

/-- R166, step 2: the payload length the code allows. -/
def needLength (n : Nat) (p : List Byte) (s : State) (k : Taken) : Taken :=
  if p.length = n then k else refuse .badLength s

/-- R166, R183, step 2: a command that carries a count of entries at byte i of its payload, `head` bytes before the
entries and `size` bytes each. -/
def needCount (i head size : Nat) (p : List Byte) (s : State) (k : Taken) : Taken :=
  if i < p.length ∧ p.length = head + size * u8 p i then k else refuse .badLength s

/-- R166, step 3. -/
def needUnguarded (s : State) (k : Taken) : Taken := if s.onAirGuard then refuse .denied s else k

/-- R166, steps 4 and 5: a test that refuses with r when it fails. -/
def need (ok : Bool) (r : Result) (s : State) (k : Taken) : Taken := if ok then k else refuse r s

/-- R166, step 4: the fields read from the payload; none refuses with BAD_ARGUMENT. -/
def needFields {α : Type} (o : Option α) (s : State) (k : α → Taken) : Taken :=
  match o with
  | some a => k a
  | none => refuse .badArgument s

/-- R165: the command leaves the intake queue, the executor is IDLE, and a direct command's slot is reserved. -/
def beginCommand (e : Entry) (rest : List Entry) (s : State) : State :=
  { s with
    intake := { s.intake with queue := rest, executor := .idle }
    ret := { s.ret with reserved := s.ret.reserved + (if e.kind = .direct then 1 else 0) } }

/-- R167: the reply to a command, its status byte formed as it is placed. -/
def replyTo (e : Entry) (t : Taken) : ReturnPacket :=
  .reply e.dest (statusByte t.state) e.code e.tag t.result t.data

/-- R165, R166: a direct command's reply fills its reserved slot; a group or broadcast command has none. The executor
then looks at the next command. -/
def answer (e : Entry) (t : Taken) : State :=
  if e.kind = .direct then
    placeOwn (replyTo e t) { t.state with ret := { t.state.ret with reserved := t.state.ret.reserved - 1 } }
  else lookIntake t.state

/-- R165: the command taken event for the oldest command, when it is one that `accepts` holds of. A direct command
waits while no own-queue slot is free. Where the oldest command is another one, or none waits, the event cannot arise
and nothing changes (log 2). -/
def takeCommand (accepts : Entry → Bool) (run : List Byte → State → Taken) (s : State) :
    Host.Outcome State Fault Refusal :=
  .next
    (match s.intake.queue with
     | [] => s
     | e :: rest =>
       if accepts e then
         if e.kind = .direct ∧ s.ret.free = 0 then s.setExecutor .waiting
         else answer e (run e.payload (beginCommand e rest s))
       else s)

/-- The command taken event of one code of the catalogue. -/
def takeCode (code : Byte) (run : List Byte → State → Taken) (s : State) : Host.Outcome State Fault Refusal :=
  takeCommand (fun e => e.code == code) run s

end Sys2Proof.Machine
end

