-- ==== Sys2Proof/Machine/Lighting.lean ====
section
/-! DEFINITION. Chapter 8: the fixture table, the scene store, fades and the light master. -/

namespace Sys2Proof.Machine

/-! ## Footprints (R130–R132) -/

/-- R130: the slot behind a fixture's last one. -/
def Fixture.slotEnd (f : Fixture) : Nat := f.base + f.kind.slots

/-- R131: two present fixtures share a slot of a line. -/
def footprintsMeet (f g : Fixture) : Bool :=
  f.present && g.present && f.line == g.line && decide (f.base < g.slotEnd) && decide (g.base < f.slotEnd)

/-- R132: some line slot lies in two footprints. -/
def anyConflict (t : Vector Fixture 96) : Bool :=
  (List.finRange 96).any fun i => (List.finRange 96).any fun j => decide (i < j) && footprintsMeet t[i] t[j]

/-- R133: the record that stands after a write: a present fixture keeps its attributes, fades and follow-on flag. -/
def Fixture.rewrite (old new : Fixture) : Fixture :=
  if old.present then { new with followOn := old.followOn, i := old.i, r := old.r, g := old.g, b := old.b } else new

/-- The table as it would stand after a write. -/
def writtenTable (t : Vector Fixture 96) (records : List (Fin 96 × Fixture)) : Vector Fixture 96 :=
  records.foldl (fun t x => modifyAt t x.1 fun old => old.rewrite x.2) t

/-- R149: the follow value of a fixture written while absent is set to 0. -/
def writtenValues (t : Vector Fixture 96) (values : Vector Rgb 96) (records : List (Fin 96 × Fixture)) :
    Vector Rgb 96 :=
  records.foldl (fun v x => if t[x.1].present then v else v.set x.1 (Rgb.all 0)) values

/-- R133: every record of a WRITE_FIXTURES written. -/
def writeFixtures (records : List (Fin 96 × Fixture)) (s : State) : State :=
  { s with
    lights := { s.lights with fixtures := writtenTable s.lights.fixtures records }
    follow := { s.follow with values := writtenValues s.lights.fixtures s.follow.values records } }

/-- R132, R133: WRITE_FIXTURES. -/
def execWriteFixtures (s : State) : Host.Outcome State Fault Refusal :=
  takeCode 0x60
    (fun p s => needCount 0 1 12 p s <| needUnguarded s <| need (u8 p 0 != 0 && decide (u8 p 0 ≤ 16)) .badArgument s <|
      needFields (readRecords readFixture 12 (u8 p 0) (p.drop 1)) s fun records =>
        need (decide (records.map Prod.fst).Nodup) .duplicate s <|
          need (!anyConflict (writtenTable s.lights.fixtures records)) .conflict s <| done (writeFixtures records s))
    s

/-- R134, R149: a fixture deleted. -/
def deleteFixture (x : Fin 96) (s : State) : State :=
  (s.modifyFixture x fun _ => Fixture.powerOn).setFollowValue x (Rgb.all 0)

/-- R134: DELETE_FIXTURE. -/
def execDeleteFixture (s : State) : Host.Outcome State Fault Refusal :=
  takeCode 0x61
    (fun p s => needLength 1 p s <| needUnguarded s <|
      needFields (if h : u8 p 0 < 96 then some (⟨u8 p 0, h⟩ : Fin 96) else none) s fun x =>
        need s.lights.fixtures[x].present .notFound s <| done (deleteFixture x s))
    s

/-! ## Fades (R135, R140, R141) -/

/-- R141: one attribute at an output frame start. -/
def Attr.step (a : Attr) : Attr :=
  match a.fade with
  | none => a
  | some f =>
    if f.total ≤ f.elapsed + 1 then { current := f.target, fade := none }
    else
      { current := interpolate f.start f.target (f.elapsed + 1) f.total
        fade := some { f with elapsed := f.elapsed + 1 } }

/-- R145: a running fade ends and current keeps its value. -/
def Attr.freeze (a : Attr) : Attr := { a with fade := none }

/-- R140: an attribute set toward a scene value over a length; at length 0 it takes the value at once. -/
def Attr.fadeTo (frames : Nat) (value : Option Nat) (a : Attr) : Attr :=
  match value with
  | none => a
  | some v =>
    if frames = 0 then { current := v, fade := none }
    else { a with fade := some { start := a.current, target := v, total := frames, elapsed := 0 } }

/-- The four attributes of a fixture put through f. -/
def Fixture.mapAttrs (f : Attr → Attr) (x : Fixture) : Fixture :=
  { x with i := f x.i, r := f x.r, g := f x.g, b := f x.b }

/-- R140: a fixture set toward a scene entry. -/
def Fixture.fadeTo (frames : Nat) (e : SceneEntry) (x : Fixture) : Fixture :=
  { x with
    i := x.i.fadeTo frames e.i, r := x.r.fadeTo frames e.r, g := x.g.fadeTo frames e.g, b := x.b.fadeTo frames e.b }

/-- R140, R151: a fixture is present and shares a group with an action's mask. -/
def Fixture.reached (mask : BitVec 16) (x : Fixture) : Bool := x.present && x.groups &&& mask != 0

/-- R140: one entry applied, or passed over. -/
def applyEntry (a : FadeAction) (t : Vector Fixture 96) (e : SceneEntry) : Vector Fixture 96 :=
  if h : e.fixture < 96 then
    modifyAt t ⟨e.fixture, h⟩ fun x => if x.reached a.mask then x.fadeTo a.frames e else x
  else t

/-- R140: a LIGHT_FADE action; none when the lighting block skips it. -/
def lightFade (a : FadeAction) (s : State) : Option State :=
  match s.lights.scenes[a.scene]? with
  | some (.ready entries) =>
    some { s with lights := { s.lights with fixtures := entries.foldl (applyEntry a) s.lights.fixtures } }
  | some .empty => none
  | some (.building ..) => none
  | none => none

/-- R141: every running fade makes one step. -/
def stepFades (s : State) : State :=
  { s with lights := { s.lights with fixtures := mapAll (Fixture.mapAttrs Attr.step) s.lights.fixtures } }

/-! ## The scene store (R136–R139) -/

/-- R136, Table 8-3: the pool entries counted against the free count. -/
def Scene.counted : Scene → Nat
  | .empty => 0
  | .building expected _ => expected
  | .ready entries => entries.length

/-- The entries a scene holds. -/
def Scene.entries : Scene → List SceneEntry
  | .empty => []
  | .building _ entries => entries
  | .ready entries => entries

/-- The entries a scene expects in all; Table 8-3 says it for BUILDING alone (log 32). -/
def Scene.expected : Scene → Nat
  | .empty => 0
  | .building expected _ => expected
  | .ready entries => entries.length

/-- R136: the entries held by READY scenes plus those reserved by BUILDING scenes. -/
def poolUsed (scenes : Vector Scene 64) : Nat := (scenes.toList.map Scene.counted).sum

/-- R136: the free count of the pool. -/
def poolFree (scenes : Vector Scene 64) : Nat := Config.poolSize - poolUsed scenes

/-- R137: a scene is BUILDING. -/
def Scene.isBuilding : Scene → Bool
  | .building .. => true
  | .empty => false
  | .ready _ => false

/-- The scene number of a payload. -/
def readSceneNumber (p : List Byte) : Option (Fin 64) := if h : u8 p 0 < 64 then some ⟨u8 p 0, h⟩ else none

/-- R137: a scene begun: its entries are freed and n are reserved; the reply gives the free count. -/
def beginScene (x : Fin 64) (n : Nat) (s : State) : Taken :=
  let s' := s.setScene x (.building n [])
  report (be2 (poolFree s'.lights.scenes)) s'

/-- R137: BEGIN_SCENE. -/
def execBeginScene (s : State) : Host.Outcome State Fault Refusal :=
  takeCode 0x62
    (fun p s => needLength 3 p s <|
      needFields (if u16 p 1 ≠ 0 ∧ u16 p 1 ≤ 512 then readSceneNumber p else none) s fun x =>
        need (!s.lights.scenes[x].isBuilding) .notReady s <|
          need (u16 p 1 ≤ poolFree s.lights.scenes + s.lights.scenes[x].counted) .full s <| beginScene x (u16 p 1) s)
    s

/-- R138: the entries appended to a scene; with the last expected one it becomes READY. -/
def Scene.append (entries : List SceneEntry) : Scene → Scene
  | .building expected held =>
    if (held ++ entries).length = expected then .ready (held ++ entries) else .building expected (held ++ entries)
  | .empty => .empty
  | .ready held => .ready held

/-- R138: a fixture number appears twice in the list, or in an entry the scene already holds. -/
def entriesRepeat (held entries : List SceneEntry) : Bool :=
  !decide ((held ++ entries).map SceneEntry.fixture).Nodup

/-- R138: entries appended to a BUILDING scene. -/
def appendEntries (x : Fin 64) (entries : List SceneEntry) (s : State) : Taken :=
  let scene := s.lights.scenes[x].append entries
  report (be2 scene.entries.length ++ be1 scene.code)
    (raiseWhen (!scene.isBuilding) .sceneReady (s.setScene x scene))

/-- R138: SCENE_ENTRIES. -/
def execSceneEntries (s : State) : Host.Outcome State Fault Refusal :=
  takeCode 0x63
    (fun p s => needCount 1 2 10 p s <| need (u8 p 1 != 0 && decide (u8 p 1 ≤ 64)) .badArgument s <|
      needFields (readSceneNumber p) s fun x => needFields (readRecords readSceneEntry 10 (u8 p 1) (p.drop 2)) s fun entries =>
        need s.lights.scenes[x].isBuilding .notReady s <|
          need (entries.length ≤ s.lights.scenes[x].expected - s.lights.scenes[x].entries.length) .badArgument s <|
            need (!entriesRepeat s.lights.scenes[x].entries entries) .duplicate s <| appendEntries x entries s)
    s

/-- R139: DELETE_SCENE. -/
def execDeleteScene (s : State) : Host.Outcome State Fault Refusal :=
  takeCode 0x64 (fun p s => needLength 1 p s <| needFields (readSceneNumber p) s fun x => done (s.setScene x .empty)) s

/-! ## The light master (R142, R143) -/

/-- R142: a light master ramp begun. -/
def beginLightMaster (target frames : Nat) (s : State) : State :=
  { s with lights := { s.lights with ramp := Ramp.begin s.lights.master target frames } }

/-- R142: SET_LIGHT_MASTER. -/
def execSetLightMaster (s : State) : Host.Outcome State Fault Refusal :=
  takeCode 0x65
    (fun p s => needLength 4 p s <| need (u16 p 0 ≤ 4096) .badArgument s <|
      done (beginLightMaster (u16 p 0) (u16 p 2) s))
    s

/-- R143: the step of the light master at an output frame start. -/
def stepLightMaster (s : State) : State :=
  { s with lights := { s.lights with master := s.lights.ramp.value s.lights.master, ramp := s.lights.ramp.step } }

/-! ## Reading the lights (R144) -/

/-- A first number and a count of fixtures (R144, R158). -/
def fixtureRangeOk (p : List Byte) : Bool := u8 p 1 != 0 && decide (u8 p 1 ≤ 16) && decide (u8 p 0 + u8 p 1 ≤ 96)

/-- R144: the READ_FIXTURES data. -/
def fixturesData (l : Lights) (first count : Nat) : List Byte :=
  be2 l.master ++ l.ramp.bytes
    ++ ((List.range count).map (first + ·)).flatMap fun n =>
      match l.fixtures[n]? with
      | some f => f.bytes n
      | none => []

/-- R144: READ_FIXTURES. -/
def execReadFixtures (s : State) : Host.Outcome State Fault Refusal :=
  takeCode 0x66
    (fun p s => needLength 2 p s <| need (fixtureRangeOk p) .badArgument s <|
      report (fixturesData s.lights (u8 p 0) (u8 p 1)) s)
    s

/-- R144: the READ_SCENE data; the two counts stand there in every scene state (log 32). -/
def sceneData (scenes : Vector Scene 64) (x : Fin 64) (first count : Nat) : List Byte :=
  be1 scenes[x].code ++ be2 scenes[x].expected ++ be2 scenes[x].entries.length ++ be2 (poolFree scenes)
    ++ ((scenes[x].entries.drop first).take count).flatMap SceneEntry.bytes

/-- R144: READ_SCENE. -/
def execReadScene (s : State) : Host.Outcome State Fault Refusal :=
  takeCode 0x67
    (fun p s => needLength 4 p s <|
      needFields (if u16 p 1 ≤ 511 ∧ u8 p 3 ≠ 0 ∧ u8 p 3 ≤ 64 then readSceneNumber p else none) s fun x =>
        report (sceneData s.lights.scenes x (u16 p 1) (u8 p 3)) s)
    s

/-! ## Resets (R145) -/

/-- R145: a SOFT reset freezes every fade and the light master ramp. -/
def Lights.softReset (l : Lights) : Lights :=
  { l with fixtures := mapAll (Fixture.mapAttrs Attr.freeze) l.fixtures, ramp := l.ramp.freeze }

/-- R145: a TABLES reset deletes every fixture and empties every scene; LM keeps its frozen value. -/
def Lights.tablesReset (l : Lights) : Lights :=
  { l with
    fixtures := Vector.replicate 96 Fixture.powerOn
    scenes := Vector.replicate 64 .empty
    ramp := l.ramp.freeze }

end Sys2Proof.Machine
end

