-- ==== Sys2Proof/Machine/Looks.lean ====
section
/-! DEFINITION. Chapter 2: the look store, its commands, the look checker and the SWAP_LOOK action. -/

namespace Sys2Proof.Machine

/-! ## The tile type table and the check (R25, R37, R39) -/

/-- R25: the entry an id names; none when it is undefined. -/
def typeAt (types : Vector (Option TileType) 8) (id : Nat) : Option TileType := (types[id]?).join

/-- R37: a present entry of a look names this id. -/
def lookNames (look : Look) (id : Nat) : Bool := look.tiles.toList.any fun t => t.present && t.typeId == id

/-- R36, R37: a present entry of either bank names this id. -/
def typeInUse (l : LookStore) (id : Nat) : Bool := lookNames l.bank0 id || lookNames l.bank1 id

/-- R23: point pk of a curve. -/
def pointAt (curve : Vector Nat 33) (k : Nat) : Nat := (curve[k]?).getD 0

/-- R39: no point is below the point before it. -/
def curveRising (curve : Vector Nat 33) : Bool :=
  (List.range 32).all fun k => decide (pointAt curve k ≤ pointAt curve (k + 1))

/-- R39, step 1: a present entry names an undefined type. -/
def tileFails (types : Vector (Option TileType) 8) (t : TileEntry) : Bool :=
  t.present && (typeAt types t.typeId).isNone

/-- R39: the first failure of a look, step 1 before step 2, each in increasing order. -/
def firstFailure (types : Vector (Option TileType) 8) (look : Look) : Option CheckFailure :=
  match placesWhere (tileFails types) look.tiles with
  | slot :: _ => some (.undefinedType slot.val)
  | [] =>
    match placesWhere (fun c => !curveRising c) look.curves with
    | c :: _ => some (.decreasing c.val)
    | [] => none

/-- R40: what a completed check of the STAGED bank records. -/
def checkOutcome (l : LookStore) : CheckResult :=
  match firstFailure l.types l.stagedLook with
  | some why => .failed why
  | none => .passed

/-- R40: the staged state after a completed check. -/
def stagedAfterCheck (l : LookStore) : StagedState :=
  match firstFailure l.types l.stagedLook with
  | some _ => .editing
  | none => .checked

/-- R40: the look store after the completion of the running check. -/
def LookStore.completeCheck (l : LookStore) : LookStore :=
  { l with result := checkOutcome l, staged := stagedAfterCheck l, checkEnds := 0 }

/-- R40: the completion of the running check. -/
def completeCheck (s : State) : State := raise .checkDone { s with looks := s.looks.completeCheck }

/-- R40: CHECK_COMPLETION. A completion arrives only while a check runs (R28); otherwise nothing changes (log 9). -/
def execCheckCompletion (s : State) : Host.Outcome State Fault Refusal :=
  .next (if s.looks.staged = .checking then completeCheck s else s)

/-- R40: a running check at an output frame end. Its completion comes no later than the second one: a check that is
still running there completes together with it, the swaps of that frame end taken first (R44, log 34). -/
def checkFrameEnd (s : State) : State :=
  if s.looks.staged = .checking then
    if s.looks.checkEnds = 0 then { s with looks := { s.looks with checkEnds := 1 } } else completeCheck s
  else s

/-! ## Writing the STAGED bank (R28–R35) -/

/-- R28: in CHECKING every write is refused with BUSY. -/
def needNotChecking (s : State) (k : Taken) : Taken := need (s.looks.staged != .checking) .busy s k

/-- R28: the STAGED bank written; the staged state becomes EDITING. -/
def writeStaged (look : Look) (s : State) : Taken :=
  done { s with looks := { s.looks.setStaged look with staged := .editing } }

/-- The pattern of 2.5: a first index and a count are in range of a table. -/
def runOk (p : List Byte) (maxCount size : Nat) : Bool :=
  u8 p 1 != 0 && decide (u8 p 1 ≤ maxCount) && decide (u8 p 0 + u8 p 1 ≤ size)

/-- R29: WRITE_TILES. -/
def execWriteTiles (s : State) : Host.Outcome State Fault Refusal :=
  takeCode 0x20
    (fun p s => needCount 1 2 16 p s <| need (runOk p 63 128) .badArgument s <|
      needFields (readRecords readTile 16 (u8 p 1) (p.drop 2)) s fun tiles => needNotChecking s <|
        writeStaged { s.looks.stagedLook with tiles := writeRun s.looks.stagedLook.tiles (u8 p 0) tiles } s)
    s

/-- R30: WRITE_PROFILES. -/
def execWriteProfiles (s : State) : Host.Outcome State Fault Refusal :=
  takeCode 0x21
    (fun p s => needCount 1 2 6 p s <| need (runOk p 64 64) .badArgument s <|
      needFields (readRecords readProfile 6 (u8 p 1) (p.drop 2)) s fun profiles => needNotChecking s <|
        writeStaged { s.looks.stagedLook with profiles := writeRun s.looks.stagedLook.profiles (u8 p 0) profiles } s)
    s

/-- R31: the 33 points of a WRITE_CURVE payload. -/
def curveOf (p : List Byte) : Vector Nat 33 := Vector.ofFn fun k => u16 p (1 + 2 * k.val)

/-- R31: WRITE_CURVE. -/
def execWriteCurve (s : State) : Host.Outcome State Fault Refusal :=
  takeCode 0x22
    (fun p s => needLength 67 p s <| need (u8 p 0 ≤ 7) .badArgument s <| needNotChecking s <|
      writeStaged { s.looks.stagedLook with curves := writeRun s.looks.stagedLook.curves (u8 p 0) [curveOf p] } s)
    s

/-- R32: WRITE_REGIONS. -/
def execWriteRegions (s : State) : Host.Outcome State Fault Refusal :=
  takeCode 0x23
    (fun p s => needCount 1 2 8 p s <| need (runOk p 16 16) .badArgument s <|
      needFields (readRecords readRegion 8 (u8 p 1) (p.drop 2)) s fun regions => needNotChecking s <|
        writeStaged { s.looks.stagedLook with regions := writeRun s.looks.stagedLook.regions (u8 p 0) regions } s)
    s

/-- R33: SET_LOOK_FIELDS. -/
def execSetLookFields (s : State) : Host.Outcome State Fault Refusal :=
  takeCode 0x24
    (fun p s => needLength 10 p s <| needFields (readCode p 0) s fun border => needNotChecking s <|
      writeStaged { s.looks.stagedLook with border := border, label := BitVec.ofNat 32 (u32 p 6) } s)
    s

/-- R34: CLEAR_STAGED. -/
def execClearStaged (s : State) : Host.Outcome State Fault Refusal :=
  takeCode 0x25 (fun p s => needLength 0 p s <| needNotChecking s <| writeStaged Look.default s) s

/-- R35: COPY_ACTIVE. -/
def execCopyActive (s : State) : Host.Outcome State Fault Refusal :=
  takeCode 0x26
    (fun p s => needLength 0 p s <| needNotChecking s <|
      done { s with looks := { s.looks.setStaged s.looks.active with staged := .checked } })
    s

/-- R38: the look checker begins its check of the STAGED bank. -/
def beginCheck (s : State) : State := { s with looks := { s.looks with staged := .checking, checkEnds := 0 } }

/-- R38: CHECK_LOOK. -/
def execCheckLook (s : State) : Host.Outcome State Fault Refusal :=
  takeCode 0x27
    (fun p s => needLength 0 p s <| needNotChecking s <| { state := beginCheck s, result := .accepted, data := [] }) s

/-! ## Reading looks and tile types (R36) -/

/-- R36, Table 2-6: the first index and count lie in range of the table. -/
def readRangeOk (p : List Byte) (maxCount size : Nat) : Bool :=
  u8 p 3 != 0 && decide (u8 p 3 ≤ maxCount) && decide (u8 p 2 + u8 p 3 ≤ size)

/-- R36: the bank a READ_LOOK names by its role. -/
def bankOf (p : List Byte) (l : LookStore) : Option Look :=
  match u8 p 0 with
  | 0 => some l.active
  | 1 => some l.stagedLook
  | _ => none

/-- R36: tile type entries, each with the in-use field. -/
def typesData (l : LookStore) (first count : Nat) : List Byte :=
  ((List.range count).map (first + ·)).flatMap fun id =>
    tileTypeBytes id (typeAt l.types id) ++ yesNo (typeInUse l id)

/-- R36, Table 2-6: the entries a READ_LOOK asks for; none when an argument is out of range. -/
def lookData (p : List Byte) (l : LookStore) : Option (List Byte) :=
  match u8 p 1, bankOf p l with
  | 0, some look => if readRangeOk p 63 128 then some ((readRun look.tiles (u8 p 2) (u8 p 3)).flatMap TileEntry.bytes) else none
  | 1, some look => if readRangeOk p 64 64 then some ((readRun look.profiles (u8 p 2) (u8 p 3)).flatMap rgb2) else none
  | 2, some look =>
    if readRangeOk p 1 8 then
      some ((readRun look.curves (u8 p 2) (u8 p 3)).flatMap fun c => c.toList.flatMap be2)
    else none
  | 3, some look => if readRangeOk p 16 16 then some ((readRun look.regions (u8 p 2) (u8 p 3)).flatMap Region.bytes) else none
  | 4, some look => some (rgb2 look.border ++ be4 look.label.toNat)
  | 5, _ => if readRangeOk p 8 8 then some (typesData l (u8 p 2) (u8 p 3)) else none
  | _, _ => none

/-- R36: READ_LOOK. -/
def execReadLook (s : State) : Host.Outcome State Fault Refusal :=
  takeCode 0x28 (fun p s => needLength 4 p s <| needFields (lookData p s.looks) s fun data => report data s) s

/-! ## Writing the tile type table (R37) -/

/-- R37: WRITE_TILE_TYPE. -/
def execWriteTileType (s : State) : Host.Outcome State Fault Refusal :=
  takeCode 0x29
    (fun p s => needLength 15 p s <| needUnguarded s <| need (u8 p 0 ≤ 7) .badArgument s <|
      needFields (readTileType p) s fun entry => need (!typeInUse s.looks (u8 p 0)) .inUse s <|
        done { s with looks := { s.looks with types := writeRun s.looks.types (u8 p 0) [entry] } })
    s

/-! ## Taking a look (R42) -/

/-- R42: the two banks exchange roles. -/
def swapRoles (l : LookStore) : LookStore := { l with activeIsBank1 := !l.activeIsBank1 }

/-- R42: a SWAP_LOOK action, done in CHECKED and skipped in EDITING and CHECKING. -/
def swapLook (s : State) : State :=
  if s.looks.staged = .checked then raise .swapDone { s with looks := swapRoles s.looks } else raise .swapSkipped s

/-! ## Resets (R41, R46) -/

/-- R46: a SOFT reset abandons a running check. -/
def LookStore.softReset (l : LookStore) : LookStore :=
  if l.staged = .checking then { l with staged := .editing, result := .abandoned, checkEnds := 0 } else l

/-- R46: a TABLES reset sets both banks to the default look and clears the tile type table. -/
def LookStore.tablesReset (l : LookStore) : LookStore :=
  { l with
    bank0 := Look.default
    bank1 := Look.default
    types := Vector.replicate 8 none
    staged := .checked
    result := if l.staged = .checking then .abandoned else .none
    checkEnds := 0 }

end Sys2Proof.Machine
end

