-- ==== Sys2Proof/Machine/Pages.lean ====
section
/-! DEFINITION. The frame pages as storage: the content of a page line by line, in one canonical form (log 22), and
the roles of the three pages (R3, R7). -/

namespace Sys2Proof.Machine

/-! ## The content of one page -/

/-- The entry for line n replaced or put in its place. -/
def insertLine (n : Nat) (px : List Rgb) : List (Nat × List Rgb) → List (Nat × List Rgb)
  | [] => [(n, px)]
  | (m, q) :: rest =>
    if n < m then (n, px) :: (m, q) :: rest
    else if n = m then (n, px) :: rest
    else (m, q) :: insertLine n px rest

/-- The entry for line n taken out. -/
def eraseLine (n : Nat) : List (Nat × List Rgb) → List (Nat × List Rgb)
  | [] => []
  | (m, q) :: rest => if n = m then rest else (m, q) :: eraseLine n rest

/-- The entry for line n. -/
def findLine (n : Nat) : List (Nat × List Rgb) → Option (List Rgb)
  | [] => none
  | (m, q) :: rest => if n = m then some q else findLine n rest

/-- The recorded width, 0 before the page is first taken. -/
def Page.width (p : Page) : Nat := (p.size.map Prod.fst).getD 0

/-- The recorded height, 0 before the page is first taken. -/
def Page.height (p : Page) : Nat := (p.size.map Prod.snd).getD 0

/-- The content of line y. -/
def Page.line (p : Page) (y : Nat) : List Rgb := (findLine y p.lines).getD (List.replicate p.width p.base)

/-- The picture code at column x of line y. -/
def Page.pixel (p : Page) (x y : Nat) : Rgb := (p.line y).getD x p.base

/-- R4: a good line written at its line number. A line all of the base colour is no entry. -/
def Page.writeLine (p : Page) (y : Nat) (px : List Rgb) : Page :=
  { p with lines := if px = List.replicate p.width p.base then eraseLine y p.lines else insertLine y px p.lines }

/-- R3: the page taken for an input frame. Content recorded at the same size is kept line for line; otherwise every
pixel is the fill colour. -/
def Page.take (p : Page) (seq : BitVec 16) (width height : Nat) (fill : Rgb) : Page :=
  if p.size = some (width, height) then { p with role := .write, seq := some seq }
  else { role := .write, size := some (width, height), seq := some seq, base := fill, lines := [] }

/-- The line numbers rise strictly. -/
def linesRising : List (Nat × List Rgb) → Bool
  | [] => true
  | [_] => true
  | (m, _) :: (n, q) :: rest => decide (m < n) && linesRising ((n, q) :: rest)

/-- The canonical form of a page's content: line numbers rise strictly and lie below the height, every entry has the
raster width, and no entry equals what an unlisted line reads as. -/
def Page.wf (p : Page) : Bool :=
  linesRising p.lines
    && p.lines.all fun l => decide (l.1 < p.height) && l.2.length == p.width && l.2 != List.replicate p.width p.base

/-! ## Roles (R7) -/

/-- The lowest-numbered page in a role. -/
def pageIn (role : PageRole) (pages : Vector Page 3) : Option (Fin 3) :=
  (List.finRange 3).find? fun i => pages[i].role == role

/-- A page given a role. -/
def setRole (role : PageRole) (i : Fin 3) (pages : Vector Page 3) : Vector Page 3 :=
  modifyAt pages i fun p => { p with role := role }

/-- Every page of one role given another. -/
def moveRole (old new : PageRole) (pages : Vector Page 3) : Vector Page 3 :=
  mapAll (fun p => if p.role = old then { p with role := new } else p) pages

/-- How many pages are in a role. -/
def roleCount (role : PageRole) (pages : Vector Page 3) : Nat := pages.toList.countP fun p => p.role == role

end Sys2Proof.Machine
end

