-- ==== Sys2Proof/Machine/Pixel.lean ====
section
/-! DEFINITION. Chapter 4: the seven stages from source picture code to drive, the demand of a chain, and the lines a
chain port sends. Every function here reads the frame latch and the frame pages, and nothing else. -/

namespace Sys2Proof.Machine

/-! ## The stages (Table 4-3) -/

/-- R70, Table 4-4: the source pixel of tile pixel (u, v) of a tile w × h. -/
def sourcePixel (e : TileEntry) (w h u v : Nat) : Int × Int :=
  let left := e.x + u
  let right := e.x + w - 1 - u
  let top := e.y + v
  let bottom := e.y + h - 1 - v
  match e.orientation with
  | .normal => (left, top)
  | .rot180 => (right, bottom)
  | .mirrorH => (right, top)
  | .mirrorV => (left, bottom)

/-- R71: the picture code at a source pixel. -/
def pictureCode (l : FrameLatch) (pages : Vector Page 3) (at' : Int × Int) : Rgb :=
  match l.source, l.raster with
  | .page p, some (w, h) =>
    if 0 ≤ at'.1 ∧ at'.1 < w ∧ 0 ≤ at'.2 ∧ at'.2 < h then pages[p].pixel at'.1.toNat at'.2.toNat else l.look.border
  | .page _, none => l.look.border
  | .fill, _ => l.fill
  | .none, _ => l.fill

/-- R72: the level of a source code on a curve. -/
def curveLevel (curve : Vector Nat 33) (x : Nat) : Nat :=
  let k := x / 128
  let f := x - 128 * k
  let d : Int := (pointAt curve (k + 1) : Int) - pointAt curve k
  ((pointAt curve k : Int) + (d * f + 64) / 128).toNat

/-- R73: the gained level. -/
def gainLevel (level gain : Nat) : Nat := min 65535 ((level * gain + 16384) / 32768)

/-- v scaled by a scale of unity 4096, rounded half up (R74, R75, R77, R154). -/
def scaleBy (v scale : Nat) : Nat := (v * scale + 2048) / 4096

/-- R78: the drive of an output level at depth n. -/
def quantise (n o : Nat) : Nat := (o * (2 ^ n - 1) + 32767) / 65535

/-- R72, R73: the gained level of one picture code under a tile map entry. -/
def gainedLevel (look : Look) (e : TileEntry) (code : Rgb) : Rgb :=
  let curve := (look.curves[e.curve]?).getD Look.defaultCurve
  Rgb.zip gainLevel (code.map (curveLevel curve)) ((look.profiles[e.profile]?).getD (Rgb.all 0))

/-- R74: the composite of a tile's zone. -/
def zoneComposite (l : FrameLatch) (e : TileEntry) : Nat := (l.composite[e.zone]?).getD 0

/-- R75: the demand of a tile pixel. -/
def pixelDemand (l : FrameLatch) (pages : Vector Page 3) (e : TileEntry) (t : TileType) (u v : Nat) : Rgb :=
  (gainedLevel l.look e (pictureCode l pages (sourcePixel e t.width t.height u v))).map fun g =>
    scaleBy g (zoneComposite l e)

/-- R77: the output level of a tile pixel on a chain. -/
def pixelOutput (l : FrameLatch) (pages : Vector Page 3) (c : Fin 8) (e : TileEntry) (t : TileType) (u v : Nat) : Rgb :=
  (pixelDemand l pages e t u v).map fun d => scaleBy d l.limiter[c]

/-- R78: the drive of a tile pixel on a chain. -/
def pixelDrive (l : FrameLatch) (pages : Vector Page 3) (c : Fin 8) (e : TileEntry) (t : TileType) (u v : Nat) : Rgb :=
  (pixelOutput l pages c e t u v).map (quantise t.depth)

/-! ## The current of a pixel (R76) -/

/-- R76: what one pixel adds to its chain's accumulator. -/
def pixelCurrent (k d : Rgb) : Nat := d.r * k.r + d.g * k.g + d.b * k.b

/-- The slot of a position of a chain. -/
def slotOf (c : Fin 8) (i : Fin 16) : Fin 128 := ⟨16 * c.val + i.val, by omega⟩

/-! ## Lines to the tiles (R53, R79, R81) -/

/-- R81: the lines of a MAPPED tile. -/
def pictureLines (l : FrameLatch) (pages : Vector Page 3) (c : Fin 8) (position : Nat) (e : TileEntry) (t : TileType) :
    List (List Byte) :=
  (List.range t.height).map fun v =>
    tileLineBytes position v t.depth ((List.range t.width).map fun u => pixelDrive l pages c e t u v)

/-- R79: the lines of a MISMATCH or UNMAPPED tile, of its roster record's size, every channel 0. -/
def zeroLines (position : Nat) (i : Identity) : List (List Byte) :=
  (List.range i.height).map fun v => tileLineBytes position v i.depth (List.replicate i.width (Rgb.all 0))

/-- R53: the lines of one roster position. -/
def positionLines (l : FrameLatch) (pages : Vector Page 3) (c : Fin 8) (roster : List Identity) (i : Fin 16) :
    List (List Byte) :=
  let e := l.look.tiles[slotOf c i]
  match roster[i.val]?, l.status[slotOf c i], typeAt l.types e.typeId with
  | some _, .mapped, some t => pictureLines l pages c i.val e t
  | some id, _, _ => zeroLines i.val id
  | none, _, _ => []

/-- R53: the lines a chain in RUN sends in one frame, position by position. -/
def chainLines (l : FrameLatch) (pages : Vector Page 3) (c : Fin 8) (roster : List Identity) : List (List Byte) :=
  (List.finRange 16).flatMap (positionLines l pages c roster)

/-! ## The demand of the lines (R76, R79, R82) -/

/-- R76: what the pixels of a MAPPED tile add, line by line as they are sent. -/
def pictureDemands (l : FrameLatch) (pages : Vector Page 3) (e : TileEntry) (t : TileType) : List (List Nat) :=
  (List.range t.height).map fun v =>
    (List.range t.width).map fun u => pixelCurrent t.k (pixelDemand l pages e t u v)

/-- R76, R79: the same for one roster position; the pixels of a MISMATCH or UNMAPPED tile add nothing. -/
def positionDemands (l : FrameLatch) (pages : Vector Page 3) (c : Fin 8) (roster : List Identity) (i : Fin 16) :
    List (List Nat) :=
  let e := l.look.tiles[slotOf c i]
  match roster[i.val]?, l.status[slotOf c i], typeAt l.types e.typeId with
  | some _, .mapped, some t => pictureDemands l pages e t
  | some id, _, _ => List.replicate id.height (List.replicate id.width 0)
  | none, _, _ => []

/-- R76: the demand of every pixel a chain in RUN sends in one frame, for the lines of chainLines in their order. -/
def lineDemands (l : FrameLatch) (pages : Vector Page 3) (c : Fin 8) (roster : List Identity) : List (List Nat) :=
  (List.finRange 16).flatMap (positionDemands l pages c roster)

/-- R76: the whole demand of a chain in one frame. -/
def chainDemand (l : FrameLatch) (pages : Vector Page 3) (c : Fin 8) (roster : List Identity) : Nat :=
  (lineDemands l pages c roster).flatten.sum

/-- R82: how many of a frame's lines lie whole within its first n pixels. -/
def linesWithin {α : Type} (n : Nat) : List (List α) → Nat
  | [] => 0
  | line :: rest => if line.length ≤ n then linesWithin (n - line.length) rest + 1 else 0

/-- R76, R82: the demand of a frame's first n pixels. -/
def demandWithin (n : Nat) (demands : List (List Nat)) : Nat := (demands.flatten.take n).sum

end Sys2Proof.Machine
end

