-- ==== Sys2Proof/Machine/Follow.lean ====
section
/-! DEFINITION. Chapter 9: the region averager, picture follow, the slot images and the light lines. -/

namespace Sys2Proof.Machine

/-! ## The region averager (R146–R148) -/

/-- R146: a region whose width and height are both above 0. -/
def Region.defined (r : Region) : Bool := r.width != 0 && r.height != 0

/-- R147: the first and the number of columns (or lines) of a clipped region. -/
def clip (at' : Int) (size limit : Nat) : Nat × Nat :=
  let lo := max at' 0
  let hi := min (at' + size) limit
  (lo.toNat, (hi - lo).toNat)

/-- Sums of one page line from column x, n pixels. -/
def rowSum (page : Page) (x y : Nat) : Nat → Rgb
  | 0 => Rgb.all 0
  | n + 1 => Rgb.zip (· + ·) (rowSum page x y n) (page.pixel (x + n) y)

/-- Sums of a rectangle of a page: n columns from x, m lines from y. -/
def rectSum (page : Page) (x y n : Nat) : Nat → Rgb
  | 0 => Rgb.all 0
  | m + 1 => Rgb.zip (· + ·) (rectSum page x y n m) (rowSum page x (y + m) n)

/-- R147: the sums and count of one region in the frame latched. -/
def measureRegion (l : FrameLatch) (pages : Vector Page 3) (r : Region) : RegionSum :=
  if r.defined then
    match l.source, l.raster with
    | .page p, some (w, h) =>
      let cols := clip r.x r.width w
      let rows := clip r.y r.height h
      { sum := rectSum pages[p] cols.1 rows.1 cols.2 rows.2, count := cols.2 * rows.2 }
    | .page _, none => RegionSum.zero
    | .fill, _ => { sum := l.fill.map (· * (r.width * r.height)), count := r.width * r.height }
    | .none, _ => RegionSum.zero
  else RegionSum.zero

/-- R146, R147: the running records of a frame. They are cleared at its frame start, and what they hold at its frame
end is put down at once (log 12). -/
def measureRegions (s : State) : State :=
  { s with
    follow :=
      { s.follow with running := Vector.ofFn fun i => measureRegion s.comp s.store.pages s.comp.look.regions[i] } }

/-- R148: the published record of one region. -/
def publish (l : FrameLatch) (r : Region) (x : RegionSum) : Option Rgb :=
  if r.defined && l.source != .none && x.count != 0 then some (x.sum.map (· / x.count)) else none

/-- R148: every record published at an output frame end. -/
def publishAverages (s : State) : State :=
  { s with
    follow :=
      { s.follow with
        published := Vector.ofFn fun i => publish s.comp s.comp.look.regions[i] s.follow.running[i] } }

/-! ## Follow values (R149, R150) -/

/-- R150: the target level of an average. -/
def followTarget (a : Nat) : Nat := (a * 65535 + 2047) / 4095

/-- R150: the gained target. -/
def gainedTarget (a gain : Nat) : Nat := min 65535 (scaleBy (followTarget a) gain)

/-- R150: the step toward the gained target, at least one level while any distance remains. -/
def followStep (target value rate : Nat) : Int :=
  let s := Int.tdiv (((target : Int) - value) * rate) 256
  if s = 0 ∧ target ≠ value then (if value < target then 1 else -1) else s

/-- R150: one channel of a follow value after a step. -/
def followNext (gain rate : Nat) (value average : Nat) : Nat :=
  ((value : Int) + followStep (gainedTarget average gain) value rate).toNat

/-- R150: a fixture's follow value at an output frame start. -/
def stepFollowValue (published : Vector (Option Rgb) 16) (f : Fixture) (v : Rgb) : Rgb :=
  if f.present && f.followOn then
    match f.region.bind fun r => (published[r]?).join with
    | some a => Rgb.zip (followNext f.gain f.rate) v a
    | none => v
  else v

/-- R150: every follow value steps. -/
def stepFollow (s : State) : State :=
  { s with
    follow :=
      { s.follow with
        values := Vector.ofFn fun i =>
          stepFollowValue s.follow.published s.lights.fixtures[i] s.follow.values[i] } }

/-! ## The FOLLOW action (R151, R152) -/

/-- R151: a reached fixture that does not follow and has a region starts to follow. -/
def turnsOn (a : FollowAction) (f : Fixture) : Bool := f.reached a.mask && !f.followOn && f.region.isSome

/-- R152: a reached fixture that follows stops. -/
def turnsOff (a : FollowAction) (f : Fixture) : Bool := f.reached a.mask && f.followOn

/-- R152: current takes the follow value, and a running fade is restarted from it over its remaining frames. -/
def Attr.handBack (v : Nat) (a : Attr) : Attr :=
  { current := v, fade := a.fade.map fun f => { f with start := v, total := f.total - f.elapsed, elapsed := 0 } }

/-- R152: a fixture handed its follow value back. -/
def Fixture.handBack (v : Rgb) (f : Fixture) : Fixture :=
  { f with followOn := false, r := f.r.handBack v.r, g := f.g.handBack v.g, b := f.b.handBack v.b }

/-- The current R, G and B of a fixture. -/
def Fixture.colour (f : Fixture) : Rgb := { r := f.r.current, g := f.g.current, b := f.b.current }

/-- R151: FOLLOW on. -/
def followOnAction (a : FollowAction) (s : State) : State :=
  { s with
    lights := { s.lights with fixtures := mapAll (fun f => if turnsOn a f then { f with followOn := true } else f) s.lights.fixtures }
    follow :=
      { s.follow with
        values := Vector.ofFn fun i =>
          if turnsOn a s.lights.fixtures[i] then s.lights.fixtures[i].colour else s.follow.values[i] } }

/-- R152: FOLLOW off. -/
def followOffAction (a : FollowAction) (s : State) : State :=
  { s with
    lights :=
      { s.lights with
        fixtures := Vector.ofFn fun i =>
          if turnsOff a s.lights.fixtures[i] then s.lights.fixtures[i].handBack s.follow.values[i]
          else s.lights.fixtures[i] } }

/-- R151, R152: a FOLLOW action; it is never skipped. -/
def followAction (a : FollowAction) (s : State) : State := if a.on then followOnAction a s else followOffAction a s

/-! ## Slot images (R154) -/

/-- R154: a level folded with the scaled intensity. -/
def foldIntensity (intensity c : Nat) : Nat := (c * intensity + 32767) / 65535

/-- R154: an 8-bit slot. -/
def slot8 (v : Nat) : List Byte := [BitVec.ofNat 8 ((v * 255 + 32767) / 65535)]

/-- R154: a 16-bit pair, coarse then fine. -/
def slot16 (v : Nat) : List Byte := be2 v

/-- R154: the colour levels of a fixture. -/
def colourLevels (f : Fixture) (v : Rgb) : Rgb := if f.present && f.followOn then v else f.colour

/-- R154, Table 9-2: the slot values of a fixture, from its base slot on. -/
def slotValues (lm : Nat) (f : Fixture) (v : Rgb) : List Byte :=
  let intensity := scaleBy f.i.current lm
  let c := colourLevels f v
  let folded := c.map (foldIntensity intensity)
  match f.kind with
  | .dim8 => slot8 intensity
  | .dim16 => slot16 intensity
  | .rgb8 => slot8 folded.r ++ slot8 folded.g ++ slot8 folded.b
  | .rgbi8 => slot8 c.r ++ slot8 c.g ++ slot8 c.b ++ slot8 intensity
  | .rgb16 => slot16 folded.r ++ slot16 folded.g ++ slot16 folded.b

/-- R154: a fixture of a line writes its footprint. -/
def writeFootprint (s : State) (line : Nat) (image : Vector Byte 320) (i : Fin 96) : Vector Byte 320 :=
  let f := s.lights.fixtures[i]
  if f.present && f.line == line then writeRun image (f.base - 1) (slotValues s.lights.master f s.follow.values[i])
  else image

/-- R154: the slot image of one line; a slot in no footprint carries 0. -/
def composeImage (s : State) (line : Nat) : Vector Byte 320 :=
  (List.finRange 96).foldl (writeFootprint s line) (Vector.replicate 320 0)

/-- R154: the four slot images. -/
def composeImages (s : State) : State :=
  { s with follow := { s.follow with images := Vector.ofFn fun l => composeImage s l.val } }

/-- R157: the level packet of one line, when it is enabled. -/
def linePacketOf (s : State) (l : Fin 4) : Option (List Byte) :=
  if s.follow.lines[l].enable then
    some (levelPacket l.val (s.follow.images[l].toList.take s.follow.lines[l].slots) s.timing.frame)
  else none

/-- R157: every enabled line sends its level packet. -/
def sendLevels (s : State) : State :=
  { s with out := { s.out with lights := Vector.ofFn fun l => linePacketOf s l } }

/-! ## Commands (R156, R158) -/

/-- R156: the line and its configuration in a SET_LINE payload. -/
def readLineConfig (p : List Byte) : Option (Fin 4 × LineConfig) :=
  match readYesNo p 1 with
  | some enable =>
    if h : u8 p 0 < 4 then
      if 1 ≤ u16 p 2 ∧ u16 p 2 ≤ 320 then some (⟨u8 p 0, h⟩, { enable := enable, slots := u16 p 2 }) else none
    else none
  | none => none

/-- R156: SET_LINE. -/
def execSetLine (s : State) : Host.Outcome State Fault Refusal :=
  takeCode 0x70
    (fun p s => needLength 4 p s <| needUnguarded s <| needFields (readLineConfig p) s fun x =>
      done { s with follow := { s.follow with lines := s.follow.lines.set x.1 x.2 } })
    s

/-- R158: a line's enable and slot count. -/
def LineConfig.bytes (l : LineConfig) : List Byte := yesNo l.enable ++ be2 l.slots

/-- R158: the READ_FOLLOW data. Whether a region's published record is valid is coded as a presence byte, with zeros behind
it when it is invalid (DEDUCED, log 18). -/
def followData (s : State) (first count : Nat) : List Byte :=
  s.follow.lines.toList.flatMap LineConfig.bytes ++ s.follow.published.toList.flatMap (optional 6 rgb2)
    ++ ((List.range count).map (first + ·)).flatMap fun n =>
      match s.lights.fixtures[n]?, s.follow.values[n]? with
      | some f, some v => yesNo f.followOn ++ rgb2 v
      | _, _ => []

/-- R158: READ_FOLLOW. -/
def execReadFollow (s : State) : Host.Outcome State Fault Refusal :=
  takeCode 0x71
    (fun p s => needLength 2 p s <| need (fixtureRangeOk p) .badArgument s <|
      report (followData s (u8 p 0) (u8 p 1)) s)
    s

end Sys2Proof.Machine
end

