-- ==== Sys2Proof/Machine/Chains.lean ====
section
/-! DEFINITION. Chapter 3: the chain ports, their commands, and the wall slot statuses. -/

namespace Sys2Proof.Machine

/-! ## Leaving and entering RUN (R49, R56, R58, R82, R93) -/

/-- R93: a move out of or into RUN sets the limiter scale to 0 and the measured mark to no. -/
def dropLimiter (c : Fin 8) (s : State) : State := s.modifyLimiter c fun l => { l with scale := 0, measured := false }

/-- R76, R82: of the lines of the frame in progress those sent so far stay, n pixels of them, and the accumulator holds
the demand of just these pixels; the rest are abandoned. -/
def keepSent (c : Fin 8) (n : Nat) (s : State) : State :=
  let demands := lineDemands s.comp s.store.pages c s.ports[c].roster
  let s' := s.modifyLimiter c fun l => { l with acc := demandWithin n demands }
  { s' with out := { s'.out with chains := modifyAt s'.out.chains c fun sent => sent.take (linesWithin n demands) } }

/-- R82: lines of the frame in progress that have not yet been sent are abandoned. How many pixels were sent is free
(log 13). -/
def abandonLines (c : Fin 8) (s : State) : State :=
  { keepSent c (Config.pixelsSent s.freeIndex) s with freeIndex := s.freeIndex + 1 }

/-- R49, R58: a chain leaves RUN by a command; within a frame its lines are abandoned. Nothing happens to a chain not
in RUN. -/
def leaveRun (c : Fin 8) (s : State) : State :=
  if s.ports[c].state = .run then
    dropLimiter c (if s.timing.phase = .active then abandonLines c s else s)
  else s

/-! ## Configuration (R48, R49, R58) -/

/-- R49: a port disabled. Its report counts are not named by the rule and stay (log 20). -/
def ChainPort.disable (p : ChainPort) : ChainPort :=
  { p with
    state := .off, roster := [], stale := false
    reports := mapAll (fun q => { q with last := none, silent := false, fresh := false }) p.reports
    newlyEnabled := false, windowOpen := false, answered := false, collection := [], overlong := false
    holdoffCount := 0 }

/-- R49: the enable field of a SET_CHAIN acts on the port state. A port enabled in OFF is in PROBE from the command on;
that it was enabled is marked until a frame event meets it (R60, Table 3-4). -/
def ChainPort.configure (p : ChainPort) (cfg : ChainConfig) : ChainPort :=
  match cfg.enable, p.state with
  | true, .off => { p with config := cfg, state := .probe, newlyEnabled := true, windowOpen := false }
  | true, _ => { p with config := cfg }
  | false, .off => { p with config := cfg }
  | false, _ => { p.disable with config := cfg }

/-- R58: a port restarted. A roster that is held is kept and marked stale; an empty roster is none held (log 20). -/
def ChainPort.restart (p : ChainPort) : ChainPort :=
  { p with
    state := .probe, newlyEnabled := false, stale := !p.roster.isEmpty, windowOpen := false, answered := false
    collection := [], overlong := false, holdoffCount := 0
    reports := mapAll (fun q => { q with silent := false, fresh := false }) p.reports }

/-- R48, R49: a SET_CHAIN whose fields are in range. -/
def configureChain (c : Fin 8) (cfg : ChainConfig) (s : State) : State :=
  (if cfg.enable then s else leaveRun c s).modifyPort c fun p => p.configure cfg

/-- R48: SET_CHAIN. -/
def execSetChain (s : State) : Host.Outcome State Fault Refusal :=
  takeCode 0x30
    (fun p s => needLength 9 p s <| needUnguarded s <| needFields (readChainConfig p) s fun x =>
      done (configureChain x.1 x.2 s))
    s

/-- The chain number of a payload (R58, R64). -/
def readChain (p : List Byte) : Option (Fin 8) := if h : u8 p 0 < 8 then some ⟨u8 p 0, h⟩ else none

/-- R58: RESTART_CHAIN. -/
def execRestartChain (s : State) : Host.Outcome State Fault Refusal :=
  takeCode 0x31
    (fun p s => needLength 1 p s <| needUnguarded s <| needFields (readChain p) s fun c =>
      need (s.ports[c].state != .off) .notReady s <| done ((leaveRun c s).modifyPort c ChainPort.restart))
    s

/-- R64: the READ_ROSTER data. -/
def rosterData (s : State) (c : Fin 8) : List Byte :=
  let p := s.ports[c]
  be1 p.state.code ++ yesNo p.config.enable ++ be1 p.config.recovery.code ++ be1 p.config.holdoff
    ++ be1 p.config.silentLimit ++ be2 p.config.budget ++ be2 p.config.releaseStep ++ be1 p.holdoffCount
    ++ be1 p.roster.length ++ yesNo p.stale ++ p.roster.flatMap Identity.bytes
    ++ p.reports.toList.flatMap Position.bytes
    ++ (readRun s.comp.status (16 * c.val) 16).flatMap fun st => be1 st.code

/-- R64: READ_ROSTER. -/
def execReadRoster (s : State) : Host.Outcome State Fault Refusal :=
  takeCode 0x32 (fun p s => needLength 1 p s <| needFields (readChain p) s fun c => report (rosterData s c) s) s

/-! ## Arrivals from the tiles (R50, R51, R54, R182) -/

/-- R51: a record joins the collection; a 17th raises ROSTER_OVERLONG once for the enumeration. -/
def collect (c : Fin 8) (i : Identity) (s : State) : State :=
  let p := s.ports[c]
  if p.collection.length < 16 then s.modifyPort c fun p => { p with collection := p.collection ++ [i] }
  else if p.overlong then s
  else raise .rosterOverlong (s.modifyPort c fun p => { p with overlong := true })

/-- R50, R51: an identity record whose check and form are right. -/
def takeIdentity (c : Fin 8) (i : Identity) (s : State) : State :=
  let p := s.ports[c]
  if p.windowOpen then
    match p.state with
    | .probe => s.modifyPort c fun p => { p with answered := true }
    | .enumerate => collect c i s
    | .off => s
    | .run => s
    | .failed => s
  else s

/-- R50, R51, R182: IDENTITY_ARRIVAL. -/
def execIdentityArrival (c : Fin 8) (bytes : List Byte) (s : State) : Host.Outcome State Fault Refusal :=
  .next
    (match readIdentityRecord bytes with
     | some i => takeIdentity c i s
     | none => s)

/-- R54: a report replaces its position's last report and sets the fresh mark. -/
def Position.report (r : TileReport) (q : Position) : Position := { q with last := some r, fresh := true }

/-- R54: a tile report whose check and form are right. -/
def takeReport (c : Fin 8) (position : Nat) (r : TileReport) (s : State) : State :=
  let p := s.ports[c]
  if p.state = .run then
    if h : position < 16 ∧ position < p.roster.length then
      s.modifyPort c fun p =>
        { p with
          reports := modifyAt p.reports ⟨position, h.1⟩ (Position.report r)
          linkErrors := p.linkErrors.add r.errors }
    else raise .rosterStale s
  else s

/-- R54, R182: TILE_REPORT_ARRIVAL. -/
def execTileReportArrival (c : Fin 8) (bytes : List Byte) (s : State) : Host.Outcome State Fault Refusal :=
  .next
    (match readTileReport bytes with
     | some x => takeReport c x.1 x.2 s
     | none => s)

/-! ## Silence, failure and recovery (R55–R57) -/

/-- R55: one roster position's freshness at a frame end. -/
def Position.evaluate (q : Position) : Position :=
  if q.fresh then { q with since := 0, fresh := false, silent := false } else { q with since := min 255 (q.since + 1) }

/-- R55: the freshness of every roster position. -/
def ChainPort.evaluate (p : ChainPort) : ChainPort :=
  { p with reports := Vector.ofFn fun i => if i.val < p.roster.length then p.reports[i].evaluate else p.reports[i] }

/-- R55: a position above 0 of a chain in RUN is at or above the silent limit and has no silent mark. -/
def silentDue (p : ChainPort) (i : Fin 16) : Bool :=
  p.state == .run && decide (0 < i.val) && decide (i.val < p.roster.length)
    && decide (p.config.silentLimit ≤ p.reports[i].since) && !p.reports[i].silent

/-- R55: such a position is marked SILENT. -/
def markSilent (c : Fin 8) (i : Fin 16) (s : State) : State :=
  if silentDue s.ports[c] i then
    raise .tileSilent
      (s.modifyPort c fun p =>
        { p with reports := modifyAt p.reports i fun q => { q with silent := true }
                 silentEvents := p.silentEvents.inc })
  else s

/-- R56: position 0 of a chain in RUN is at or above the silent limit. -/
def failureDue (p : ChainPort) : Bool :=
  p.state == .run && !p.roster.isEmpty && decide (p.config.silentLimit ≤ p.reports[(0 : Fin 16)].since)

/-- R56: the port of a chain that fails. -/
def ChainPort.fail (p : ChainPort) : ChainPort :=
  { p with
    state := .failed, stale := true, holdoffCount := 0
    reports := mapAll (fun q => { q with silent := false }) p.reports }

/-- R56, R93: the chain fails, where its failure is due. -/
def failChain (c : Fin 8) (s : State) : State :=
  if failureDue s.ports[c] then raise .chainFailed (dropLimiter c (s.modifyPort c ChainPort.fail)) else s

/-- R57: a FAILED AUTO chain's holdoff count is at or above the holdoff. -/
def recoveryDue (p : ChainPort) : Bool :=
  p.state == .failed && p.config.recovery == .auto && decide (p.config.holdoff ≤ p.holdoffCount)

/-- R57: the holdoff count of a port in FAILED goes up by one, saturating at 255. -/
def ChainPort.countHoldoff (p : ChainPort) : ChainPort := { p with holdoffCount := min 255 (p.holdoffCount + 1) }

/-- R57: such a port moves to PROBE. -/
def recoverChain (c : Fin 8) (s : State) : State :=
  if recoveryDue s.ports[c] then
    s.modifyPort c fun p => { p with state := .probe, newlyEnabled := false, windowOpen := false }
  else s

/-! ## The frame events of a port (R50–R52, R55–R57) -/

/-- R50, R60: a port in PROBE sends a probe at an output frame start, but for one enabled in OFF since the last frame
event: Table 3-4 gives it its first probe at the frame start after this one (log 31). -/
def ChainPort.probes (p : ChainPort) : Bool := p.state == .probe && !p.newlyEnabled

/-- R50, R51: what a port does to its own record at an output frame start, by the state it holds then (R60). -/
def ChainPort.frameStart (p : ChainPort) : ChainPort :=
  match p.state with
  | .probe => if p.probes then { p with windowOpen := true } else { p with newlyEnabled := false }
  | .enumerate => { p with windowOpen := true, collection := [], overlong := false }
  | .off => p
  | .run => p
  | .failed => p

/-- R50: a port in PROBE at a frame end. -/
def ChainPort.closeProbe (p : ChainPort) : ChainPort :=
  { p with
    state := if p.answered then .enumerate else .probe, newlyEnabled := false, windowOpen := false, answered := false }

/-- R52: the roster installed by an enumeration that collected a record. -/
def ChainPort.install (p : ChainPort) : ChainPort :=
  { p with
    state := .run, roster := p.collection, stale := false, reports := Vector.replicate 16 Position.blank
    windowOpen := false, collection := [] }

/-- R52: an enumeration that collected no record. -/
def ChainPort.enumFail (p : ChainPort) : ChainPort :=
  { p with state := .probe, newlyEnabled := false, windowOpen := false, enumFails := p.enumFails.inc }

/-- R52: the roster collected is compared with a stale roster, before that is replaced (log 33). -/
def compareRoster (c : Fin 8) (s : State) : State :=
  let p := s.ports[c]
  raiseWhen (!p.collection.isEmpty && p.stale && p.roster != p.collection) .rosterChanged s

/-- R52, R93: the end of an enumeration: the roster installed and RUN entered, or a failed enumeration. -/
def endEnumeration (c : Fin 8) (s : State) : State :=
  if s.ports[c].collection.isEmpty then s.modifyPort c ChainPort.enumFail
  else raise .chainUp (dropLimiter c (s.modifyPort c ChainPort.install))

/-- R55, R56: the steps of a port in RUN at a frame end: freshness, silence, then failure. -/
def runSteps (c : Fin 8) : List (State → State) :=
  (State.modifyPort · c ChainPort.evaluate) :: (List.finRange 16).map (markSilent c) ++ [failChain c]

/-- R57: a port in FAILED at a frame end. -/
def failedFrameEnd (c : Fin 8) (s : State) : State :=
  recoverChain c (s.modifyPort c ChainPort.countHoldoff)

/-- The steps of one port's evaluation at an output frame end, by the state it is in when the frame end is taken. -/
def portSteps (c : Fin 8) (p : ChainPort) : List (State → State) :=
  match p.state with
  | .off => []
  | .probe => [(State.modifyPort · c ChainPort.closeProbe)]
  | .enumerate => if p.windowOpen then [compareRoster c, endEnumeration c] else []
  | .run => runSteps c
  | .failed => [failedFrameEnd c]

/-- One port's evaluation at an output frame end. -/
def portFrameEnd (w : EndWork) (c : Fin 8) : EndWork := w.actAll (portSteps c w.state.ports[c])

/-- The chain ports' work at an output frame end. -/
def portsFrameEnd (w : EndWork) : EndWork := (List.finRange 8).foldl portFrameEnd w

/-- R59: CLEAR_FAULTS at one port. -/
def ChainPort.clearFault (p : ChainPort) : ChainPort :=
  if p.state = .failed ∧ p.config.recovery = .latched then
    { p with state := .probe, newlyEnabled := false, windowOpen := false, holdoffCount := 0 }
  else p

/-- R66: a SOFT or TABLES reset clears the counters alone. -/
def ChainPort.clearCounters (p : ChainPort) : ChainPort :=
  { p with linkErrors := Counter.zero, enumFails := Counter.zero, silentEvents := Counter.zero }

/-! ## Wall slot status (R61, R62) -/

/-- The chain of a wall slot. -/
def slotChain (slot : Fin 128) : Fin 8 := ⟨slot.val / 16, by omega⟩

/-- The position of a wall slot on its chain. -/
def slotPosition (slot : Fin 128) : Fin 16 := ⟨slot.val % 16, by omega⟩

/-- R62: the four fields of a roster record all equal those of the tile type the entry names. -/
def identityMatches (i : Identity) : Option TileType → Bool
  | some t => i.code == t.code && i.width == t.width && i.height == t.height && i.depth == t.depth
  | none => false

/-- R62, Table 3-5. -/
def slotStatus (entry : TileEntry) (type : Option TileType) (port : ChainPort) (position : Nat) : SlotStatus :=
  match (if port.state = .run then port.roster[position]? else none) with
  | some i =>
    if entry.present then (if identityMatches i type then .mapped else .mismatch) else .unmapped
  | none => if entry.present then .absent else .empty

end Sys2Proof.Machine
end

