-- ==== Sys2Proof/Machine/PowerBlock.lean ====
section
/-! DEFINITION. Chapter 5: the wall master and the limiter of each chain. -/

namespace Sys2Proof.Machine

/-! ## The wall master (R84–R88) -/

/-- R84: a wall master ramp begun. -/
def beginMaster (target frames : Nat) (s : State) : State :=
  { s with power := { s.power with ramp := Ramp.begin s.power.master target frames } }

/-- R85: SET_MASTER. -/
def execSetMaster (s : State) : Host.Outcome State Fault Refusal :=
  takeCode 0x40
    (fun p s => needLength 4 p s <| need (u16 p 0 ≤ 4096) .badArgument s <| done (beginMaster (u16 p 0) (u16 p 2) s)) s

/-- R87: the step of the wall master at an output frame start. -/
def stepMaster (s : State) : State :=
  { s with power := { s.power with master := s.power.ramp.value s.power.master, ramp := s.power.ramp.step } }

/-! ## The limiter (R90–R93, R95) -/

/-- R90: the measured mark of every chain in RUN at an output frame start. -/
def markMeasured (s : State) : State :=
  { s with
    power :=
      { s.power with
        limiters := Vector.ofFn fun c : Fin 8 =>
          if s.ports[c].state = .run then { s.power.limiters[c] with measured := true } else s.power.limiters[c] } }

/-- R91: the demand current in 10 mA units. -/
def demandCurrent (acc : Nat) : Nat := acc / 655350000

/-- R91: the target of a chain's limiter. -/
def limiterTarget (acc budget : Nat) : Nat :=
  if demandCurrent acc ≤ budget then 4096 else budget * 4096 / demandCurrent acc

/-- R92: attack, release or hold. -/
def limiterScale (scale target release : Nat) : Nat :=
  if target < scale then target else min target (scale + release)

/-- R91: a chain is evaluated when its port is in RUN and its measured mark is yes. -/
def evaluated (s : State) (c : Fin 8) : Bool := s.ports[c].state == .run && s.power.limiters[c].measured

/-- R91, R92: the limiter scale an evaluation sets. -/
def newScale (s : State) (c : Fin 8) : Nat :=
  limiterScale s.power.limiters[c].scale (limiterTarget s.power.limiters[c].acc s.ports[c].config.budget)
    s.ports[c].config.releaseStep

/-- R95: an evaluation lowers the scale from 4096. -/
def raisesLimiting (old new : Nat) : Bool := old == 4096 && decide (new < 4096)

/-- R95: an evaluation lowers the scale from 1024 or above to below 1024. -/
def raisesHeavy (old new : Nat) : Bool := decide (1024 ≤ old) && decide (new < 1024)

/-- R91–R93: one chain's evaluation. A chain not evaluated has its accumulator cleared alone. -/
def evaluateLimiter (c : Fin 8) (s : State) : State :=
  if evaluated s c then
    raiseWhen (raisesLimiting s.power.limiters[c].scale (newScale s c)) .limiting
      (s.modifyLimiter c fun l => { l with scale := newScale s c, acc := 0 })
  else s.modifyLimiter c fun l => { l with acc := 0 }

/-- R91, R93, R95: one chain at an output frame end; `heavy` is judged on the scales before and after. -/
def powerFrameEndChain (w : EndWork) (c : Fin 8) : EndWork :=
  let heavy := evaluated w.state c && raisesHeavy w.state.power.limiters[c].scale (newScale w.state c)
  (w.act (evaluateLimiter c)).act (raiseWhen heavy .powerHeavy)

/-- The power block's work at an output frame end. -/
def powerFrameEnd (w : EndWork) : EndWork := (List.finRange 8).foldl powerFrameEndChain w

end Sys2Proof.Machine
end

