-- ==== Sys2Proof/Machine/Cues.lean ====
section
/-! DEFINITION. Chapter 7: the cue engine, the TALLY line and the on-air guard. -/

namespace Sys2Proof.Machine

/-! ## Frame numbers modulo 2^32 (R115) -/

/-- R115: a trigger frame n is at or below a frame number x. -/
def atOrBelow (n x : BitVec 32) : Bool := decide ((x - n).toNat < 2147483648)

/-- R115: a cue is due at the output frame end of frame m. -/
def cueDue (m : BitVec 32) (c : Cue) : Bool :=
  match c.trigger with
  | .atFrame n => atOrBelow n (m + 1)
  | .next => true
  | .onTally edge => edge

/-! ## Issuing actions (R122) -/

/-- R122: an owner reported an action skipped. -/
def noteSkip (id : Nat) (kind : SkippedAction) (s : State) : State :=
  raise .cueActionSkipped { s with cues := { s.cues with lastSkipped := some (id, kind) } }

/-- R122: the SWAP_LOOK action of a cue. -/
def issueSwap (c : Cue) (s : State) : State := if c.swapLook then swapLook s else s

/-- R122: a SWAP_LOOK action that the look store skipped (R42) is noted. The swap leaves the staged state alone. -/
def noteSwap (c : Cue) (s : State) : State :=
  if c.swapLook && s.looks.staged != .checked then noteSkip c.id .swapLook s else s

/-- R86, R122: the MASTER action of a cue. -/
def issueMaster (c : Cue) (s : State) : State :=
  match c.master with
  | some m => beginMaster m.target m.frames s
  | none => s

/-- R122, R140: one LIGHT_FADE entry of a cue, at its place in the list; a skipped one is noted. -/
def issueFade (id : Nat) (x : FadeAction × Nat) (s : State) : State :=
  (lightFade x.1 s).getD (noteSkip id (.lightFade x.2) s)

/-- R122, R151: the FOLLOW action of a cue. -/
def issueFollow (c : Cue) (s : State) : State :=
  match c.follow with
  | some a => followAction a s
  | none => s

/-- R122, R142: the LIGHT_MASTER action of a cue. -/
def issueLightMaster (c : Cue) (s : State) : State :=
  match c.lightMaster with
  | some m => beginLightMaster m.target m.frames s
  | none => s

/-- R123: a cue that has issued its actions sets the last fired id and raises CUE_FIRED. -/
def noteFired (c : Cue) (s : State) : State :=
  raise .cueFired { s with cues := { s.cues with lastFired := c.id } }

/-- R122, R123: what the firing of one cue does, step by step: its actions in their fixed order, then CUE_FIRED. -/
def firingSteps (c : Cue) : List (State → State) :=
  [issueSwap c, noteSwap c, issueMaster c] ++ c.fades.zipIdx.map (issueFade c.id)
    ++ [issueFollow c, issueLightMaster c, noteFired c]

/-! ## Settling and firing (R116, R121, R123) -/

/-- R116: a cue re-armed after a firing at the end of frame m. -/
def Cue.rearm (m : BitVec 32) (r : CueRepeat) (c : Cue) : Cue :=
  { c with trigger := .atFrame (m + 1 + BitVec.ofNat 32 r.period), rep := some r }

/-- R116, R123: what stays of a cue after a firing at the end of frame m. -/
def Cue.settle (m : BitVec 32) (c : Cue) : Option Cue :=
  match c.rep with
  | none => none
  | some r =>
    if r.count = 0 then some (c.rearm m r)
    else if r.remaining ≤ 1 then none
    else some (c.rearm m { r with remaining := r.remaining - 1 })

/-- R116, R121, R123: what stays of a cue after the walk at the end of frame m. -/
def Cue.afterWalk (m : BitVec 32) (c : Cue) : List Cue := if cueDue m c then (c.settle m).toList else [c]

/-- R113, R121: after the walk at the end of frame m the cues keep their order, and the ended frame is m. No step of a
firing reads or writes the queue, so the cues are settled together. -/
def settleCues (m : BitVec 32) (s : State) : State :=
  { s with cues := { s.cues with queue := s.cues.queue.flatMap (Cue.afterWalk m), ended := some m } }

/-- R121: the cue engine's work at an output frame end: the due cues fire from the oldest to the newest. -/
def cuesFrameEnd (w : EndWork) : EndWork :=
  (w.actAll ((w.state.cues.queue.filter (cueDue w.state.timing.frame)).flatMap firingSteps)).act
    (settleCues w.state.timing.frame)

/-! ## Placing a cue (R117–R119) -/

/-- R117: a trigger frame no more than 16777216 frames ahead of the output frame number. -/
def horizonOk (frame : BitVec 32) : Trigger → Bool
  | .atFrame n => atOrBelow n frame || decide ((n - frame).toNat ≤ Config.cueHorizon)
  | .next => true
  | .onTally _ => true

/-- R119: an AT_FRAME cue whose frame end has already been taken. -/
def cueLate (ended : Option (BitVec 32)) : Trigger → Bool
  | .atFrame n => match ended with | some e => atOrBelow n (e + 1) | none => false
  | .next => false
  | .onTally _ => false

/-- R118: a cue appended to the queue. -/
def appendCue (c : Cue) (s : State) : State := { s with cues := { s.cues with queue := s.cues.queue ++ [c] } }

/-- R118, R119: a cue placed; a late one as NEXT with OK_LATE and CUE_LATE. -/
def placeCue (c : Cue) (s : State) : Taken :=
  if cueLate s.cues.ended c.trigger then
    { state := raise .cueLate (appendCue { c with trigger := .next } s), result := .okLate, data := [] }
  else done (appendCue c s)

/-- R118: an id is in the queue. -/
def hasCue (id : Nat) (q : List Cue) : Bool := q.any fun c => c.id == id

/-- R117–R119: ADD_CUE. -/
def execAddCue (s : State) : Host.Outcome State Fault Refusal :=
  takeCode 0x50
    (fun p s => needLength 45 p s <| needFields (readCue p) s fun c =>
      need (horizonOk s.timing.frame c.trigger) .badArgument s <|
        need (decide (s.cues.queue.length < Config.cueSize)) .full s <|
          need (!hasCue c.id s.cues.queue) .duplicate s <| placeCue c s)
    s

/-! ## Removing and reading cues (R124–R126) -/

/-- The cue with an id taken out of the queue. -/
def removeCue (id : Nat) (s : State) : State :=
  { s with cues := { s.cues with queue := s.cues.queue.filter fun c => c.id != id } }

/-- R124: CANCEL_CUE. -/
def execCancelCue (s : State) : Host.Outcome State Fault Refusal :=
  takeCode 0x51
    (fun p s => needLength 2 p s <| need (u16 p 0 != 0) .badArgument s <|
      need (hasCue (u16 p 0) s.cues.queue) .notFound s <| done (removeCue (u16 p 0) s))
    s

/-- R125: CLEAR_CUES. -/
def execClearCues (s : State) : Host.Outcome State Fault Refusal :=
  takeCode 0x52
    (fun p s => needLength 0 p s <| needUnguarded s <|
      report (be1 s.cues.queue.length) { s with cues := { s.cues with queue := [] } })
    s

/-- R122, R183: a skipped action's code, its place in Table 7-4. -/
def SkippedAction.code : SkippedAction → Nat
  | .swapLook => 0
  | .lightFade _ => 2

/-- R122: the place of a skipped LIGHT_FADE entry in its list; a SWAP_LOOK has none. -/
def SkippedAction.place : SkippedAction → Option Nat
  | .swapLook => none
  | .lightFade n => some n

/-- R126: the last skipped record: id, action kind and, where the kind carries one, the entry's place (log 19). -/
def skippedBytes (x : Nat × SkippedAction) : List Byte := be2 x.1 ++ be1 x.2.code ++ optional 1 be1 x.2.place

/-- R126: the READ_CUES data. -/
def cuesData (s : State) (first count : Nat) : List Byte :=
  be1 s.cues.queue.length ++ optional 4 (fun e : BitVec 32 => be4 e.toNat) s.cues.ended ++ be4 s.timing.frame.toNat
    ++ be2 s.cues.lastFired ++ optional 5 skippedBytes s.cues.lastSkipped ++ yesNo s.cues.guard ++ yesNo s.pins.tally
    ++ ((s.cues.queue.drop first).take count).flatMap Cue.bytes

/-- R126: READ_CUES. -/
def execReadCues (s : State) : Host.Outcome State Fault Refusal :=
  takeCode 0x53
    (fun p s => needLength 2 p s <|
      need (u8 p 1 != 0 && decide (u8 p 1 ≤ 8) && decide (u8 p 0 + u8 p 1 ≤ 32)) .badArgument s <|
        report (cuesData s (u8 p 0) (u8 p 1)) s)
    s

/-! ## TALLY and the guard (R127, R128) -/

/-- R127: a rising edge marks an ON_TALLY cue. -/
def Cue.markEdge (c : Cue) : Cue :=
  match c.trigger with
  | .onTally _ => { c with trigger := .onTally true }
  | .atFrame _ => c
  | .next => c

/-- R127: TALLY_RISING_EDGE. -/
def execTallyRisingEdge (s : State) : Host.Outcome State Fault Refusal :=
  .next
    { s with
      pins := { s.pins with tally := true }
      cues := { s.cues with queue := s.cues.queue.map Cue.markEdge } }

/-- R127: TALLY_FALLING_EDGE. -/
def execTallyFallingEdge (s : State) : Host.Outcome State Fault Refusal :=
  .next { s with pins := { s.pins with tally := false } }

/-- R128: SET_GUARD. -/
def execSetGuard (s : State) : Host.Outcome State Fault Refusal :=
  takeCode 0x54
    (fun p s => needLength 1 p s <| needFields (readYesNo p 0) s fun g => done { s with cues := { s.cues with guard := g } })
    s

/-- R129: a SOFT or TABLES reset. -/
def CueEngine.reset (c : CueEngine) : CueEngine := { c with queue := [], lastFired := 0, lastSkipped := none }

end Sys2Proof.Machine
end

