-- ==== Sys2Proof/Machine/Raster.lean ====
section
/-! DEFINITION. Chapter 1: the link receiver and the frame store, with the commands SET_INPUT, SET_OUTPUT and
READ_INPUT. The output frame events stand in Frame.lean. -/

namespace Sys2Proof.Machine

/-! ## Input frames (R2–R6) -/

/-- R5: the number of line numbers 0 to height − 1 not received good. -/
def missingLines (good : List Nat) (height : Nat) : Nat := (List.range height).countP fun y => !good.contains y

/-- R4: a line number joins the set of lines received good. -/
def insertGood (n : Nat) : List Nat → List Nat
  | [] => [n]
  | m :: rest => if n < m then n :: m :: rest else if n = m then m :: rest else m :: insertGood n rest

/-- R6: the page in WRITE becomes LATEST, and a page that was LATEST becomes FREE and counts as dropped. -/
def acceptPage (p : Fin 3) (st : FrameStore) : FrameStore :=
  { st with
    pages := setRole .latest p (moveRole .latest .free st.pages)
    dropped := if (pageIn .latest st.pages).isSome then st.dropped.inc else st.dropped }

/-- R6: the page in WRITE becomes FREE, and the input frame counts as bad. -/
def rejectPage (p : Fin 3) (st : FrameStore) : FrameStore :=
  { st with pages := setRole .free p st.pages, bad := st.bad.inc }

/-- R5, R6: the open input frame closes; the page in WRITE goes by the missing-line count. -/
def closeInput (s : State) : State :=
  { s with
    link := { s.link with assembly := .idle, good := [] }
    store :=
      match pageIn .write s.store.pages with
      | none => s.store
      | some p =>
        if missingLines s.link.good s.store.pages[p].height ≤ s.store.missingLimit then acceptPage p s.store
        else rejectPage p s.store }

/-- R2: a raster size in range. -/
def rasterOk (width height : Nat) : Bool :=
  decide (64 ≤ width) && decide (width ≤ 4096) && decide (64 ≤ height) && decide (height ≤ 2160)

/-- R2, R3: the marker is accepted and the new input frame takes the lowest FREE page. -/
def openInput (seq : BitVec 16) (width height : Nat) (s : State) : State :=
  { s with
    link := { s.link with assembly := .open, good := [] }
    store :=
      match pageIn .free s.store.pages with
      | none => s.store
      | some p => { s.store with pages := modifyAt s.store.pages p fun q => q.take seq width height s.store.fill } }

/-- R2: the marker is rejected. -/
def rejectMarker (s : State) : State :=
  raise .formatRejected { s with link := { s.link with assembly := .rejected, good := [] } }

/-- R2: a frame-start marker is judged, after the input frame that was open has closed. -/
def takeMarker (seq : BitVec 16) (width height : Nat) (s : State) : State :=
  let s := if s.link.assembly = .open then closeInput s else s
  if rasterOk width height then openInput seq width height s else rejectMarker s

/-- The page in WRITE; a page never written when there is none. -/
def writePage (s : State) : Page :=
  match pageIn .write s.store.pages with
  | some p => s.store.pages[p]
  | none => Page.blank

/-- R4: a line is good. -/
def lineGood (s : State) (line count : Nat) (px : List Rgb) (checkOk : Bool) : Bool :=
  checkOk && px.length == count && decide (line < (writePage s).height) && count == (writePage s).width

/-- R4: the line is judged, and written when good. -/
def judgeLine (line count : Nat) (px : List Rgb) (checkOk : Bool) (s : State) : State :=
  if lineGood s line count px checkOk then
    { s with
      link := { s.link with good := insertGood line s.link.good }
      store :=
        match pageIn .write s.store.pages with
        | none => s.store
        | some p => { s.store with pages := modifyAt s.store.pages p fun q => q.writeLine line px } }
  else { s with link := { s.link with lineBad := s.link.lineBad.inc } }

/-- R4, R5: a line packet in assembly state OPEN; a line with a right check at the last line number closes the input
frame after it has been judged. In IDLE and REJECTED it is ignored. -/
def takeLine (line count : Nat) (px : List Rgb) (checkOk : Bool) (s : State) : State :=
  if s.link.assembly = .open then
    let judged := judgeLine line count px checkOk s
    if checkOk ∧ line + 1 = (writePage s).height then closeInput judged else judged
  else s

/-- R1, R2: FRAME_START_MARKER. -/
def execFrameStartMarker (seq width height : BitVec 16) (s : State) : Host.Outcome State Fault Refusal :=
  .next (takeMarker seq width.toNat height.toNat (s.passOn (markerBytes seq width height)))

/-- R1, R4, R5, R181: LINE_PACKET. -/
def execLinePacket (line count : BitVec 16) (pixels : List Byte) (check : BitVec 16) (s : State) :
    Host.Outcome State Fault Refusal :=
  .next
    (takeLine line.toNat count.toNat (pixelsCarried pixels) (checkRight (lineBytes line count pixels check))
      (s.passOn (lineBytes line count pixels check)))

/-! ## The frame store at an output frame start (R8, R10–R12) -/

/-- R8: the READ page and the consecutive-repeat count. -/
def settlePages (st : FrameStore) : FrameStore :=
  match pageIn .latest st.pages with
  | some _ =>
    { st with
      pages := moveRole .latest .read (moveRole .read .free st.pages)
      repeats := 0
      everRead := true }
  | none => { st with repeated := st.repeated.inc, repeats := min 65535 (st.repeats + 1) }

/-- R11: input loss is not active, the repeat count is at or above the hold limit, and the frame start made no page
READ (a frame start that makes a page READ leaves the count at 0). -/
def lossDue (st : FrameStore) : Bool := !st.lossActive && st.repeats != 0 && decide (st.holdLimit ≤ st.repeats)

/-- R11: input loss is raised where it is due. -/
def raiseLoss (s : State) : State :=
  if lossDue s.store then raise .inputLoss { s with store := { s.store with lossActive := true } } else s

/-- R12: input loss ends at a frame start that makes a page READ. -/
def endLoss (s : State) : State :=
  if s.store.lossActive && s.store.repeats == 0 then
    raise .inputRestored { s with store := { s.store with lossActive := false } }
  else s

/-- R10, Table 1-3: the picture source of the frame; `before` is whether input loss was active before this frame
start. -/
def pictureSource (st : FrameStore) (before : Bool) : PictureSource :=
  if st.everRead then
    if st.lossActive && st.lossAction == .fill && before then .fill
    else match pageIn .read st.pages with
      | some p => .page p
      | none => .none
  else .none

/-- R10, Table 1-3: the input state. -/
def inputStateOf (st : FrameStore) : InputState :=
  if st.everRead then
    if st.lossActive then (match st.lossAction with | .hold => .lossHold | .fill => .lossFill) else .live
  else .none

/-- R8, R10, R11, R12: the frame store's work at an output frame start, with the picture source it fixes. -/
def storeFrameStart (s : State) : State × PictureSource :=
  let before := s.store.lossActive
  let s := raiseLoss (endLoss { s with store := settlePages s.store })
  ({ s with store := { s.store with inputState := inputStateOf s.store } }, pictureSource s.store before)

/-! ## Commands -/

/-- R18: the four fields of SET_INPUT. -/
def readInputFields (p : List Byte) (st : FrameStore) : Option FrameStore :=
  match readCode p 3 with
  | none => none
  | some fill =>
    if u8 p 1 ≠ 0 ∧ u8 p 2 ≤ 1 then
      some { st with missingLimit := u8 p 0, holdLimit := u8 p 1
                     lossAction := if u8 p 2 = 0 then .hold else .fill, fill := fill }
    else none

/-- R18: SET_INPUT. -/
def execSetInput (s : State) : Host.Outcome State Fault Refusal :=
  takeCode 0x10
    (fun p s => needLength 9 p s <| needUnguarded s <| needFields (readInputFields p s.store) s fun st =>
      done { s with store := st })
    s

/-- R19: SET_OUTPUT. -/
def execSetOutput (s : State) : Host.Outcome State Fault Refusal :=
  takeCode 0x11
    (fun p s => needLength 1 p s <| needUnguarded s <| need (u8 p 0 ≤ 7) .badArgument s <|
      done { s with timing := { s.timing with pendingRate := some (BitVec.ofNat 3 (u8 p 0)) } })
    s

/-- R20: one page's role, size and sequence number. -/
def Page.bytes (p : Page) : List Byte :=
  be1 p.role.code ++ optional 4 (fun x : Nat × Nat => be2 x.1 ++ be2 x.2) p.size
    ++ optional 2 (fun q : BitVec 16 => be2 q.toNat) p.seq

/-- R20: the READ_INPUT data. The number of good lines is the size of the set of R2 and R4, so that a line number
received good twice counts once (log 30). -/
def inputData (s : State) : List Byte :=
  s.store.pages.toList.flatMap Page.bytes ++ be1 s.link.assembly.code ++ be2 s.link.good.length
    ++ be2 s.store.repeats ++ be1 s.store.inputState.code ++ yesNo s.store.lossActive
    ++ be1 s.store.missingLimit ++ be1 s.store.holdLimit ++ be1 s.store.lossAction.code ++ rgb2 s.store.fill
    ++ be1 s.timing.ref.code ++ be1 s.timing.rate.toNat
    ++ optional 1 (fun r : BitVec 3 => be1 r.toNat) s.timing.pendingRate ++ be4 s.timing.frame.toNat

/-- R20: READ_INPUT. -/
def execReadInput (s : State) : Host.Outcome State Fault Refusal :=
  takeCode 0x12 (fun p s => needLength 0 p s <| report (inputData s) s) s

end Sys2Proof.Machine
end

