-- ==== Sys2Proof/Machine/ThermalBlock.lean ====
section
/-! DEFINITION. Chapter 6: the thermal zones. -/

namespace Sys2Proof.Machine

/-! ## Membership and temperature (R98, R99) -/

/-- R98: a wall slot is a member of a zone in the frame latched. -/
def isMember (l : FrameLatch) (z : Fin 16) (slot : Fin 128) : Bool :=
  (l.status[slot] == .mapped || l.status[slot] == .mismatch) && l.look.tiles[slot].zone == z.val

/-- R99, Table 6-3: what a position contributes. -/
def contribution (warnHigh : Int) (q : Position) : Option Int :=
  if q.silent then some warnHigh
  else
    match q.last with
    | some r => some (r.reading.getD warnHigh)
    | none => none

/-- The larger of two temperatures, either of which may be none. -/
def maxTemp : Option Int → Option Int → Option Int
  | some a, some b => some (max a b)
  | some a, none => some a
  | none, b => b

/-- The member slots of a zone. -/
def membersOf (s : State) (z : Fin 16) : List (Fin 128) := (List.finRange 128).filter (isMember s.comp z)

/-- R99: the effective temperature of a zone. -/
def effectiveTemp (s : State) (z : Fin 16) : Option Int :=
  ((membersOf s z).map fun slot =>
    contribution s.thermal.config.warnHigh (s.ports[slotChain slot]).reports[slotPosition slot]).foldl maxTemp none

/-! ## Counters (R101, R103, R104) -/

/-- R99: at or above a threshold; no temperature is below every threshold. -/
def atOrAbove (e : Option Int) (t : Int) : Bool := match e with | some x => decide (t ≤ x) | none => false

/-- R103: below a threshold less the hysteresis, or none. -/
def isCool (e : Option Int) (t : Int) (hysteresis : Nat) : Bool :=
  match e with | some x => decide (x < t - hysteresis) | none => true

/-- A run of consecutive frame ends, saturating at 255. -/
def countRun (hit : Bool) (n : Nat) : Nat := if hit then min 255 (n + 1) else 0

/-- R103: the leave threshold of a state; none in NORMAL. -/
def leaveThreshold (cfg : ThermalConfig) : ZoneState → Option Int
  | .normal => none
  | .warm => some cfg.warnLow
  | .hot => some cfg.warnHigh
  | .shutdown => some cfg.shutdown

/-- R103: the down counter after an evaluation. -/
def countDown (cfg : ThermalConfig) (e : Option Int) (z : Zone) : Nat :=
  match leaveThreshold cfg z.state with
  | some t => countRun (isCool e t cfg.hysteresis) z.down
  | none => 0

/-- R98, R99, R101, R103: a zone record after the count of an evaluation, before any move. -/
def Zone.count (cfg : ThermalConfig) (members : Nat) (e : Option Int) (z : Zone) : Zone :=
  { z with
    temp := e, members := members
    warm := countRun (atOrAbove e cfg.warnLow) z.warm
    hot := countRun (atOrAbove e cfg.warnHigh) z.hot
    shut := countRun (atOrAbove e cfg.shutdown) z.shut
    down := countDown cfg e z }

/-! ## Moves (R102–R104) -/

/-- R102: the highest state above its own whose level counter is at or above the deglitch. -/
def upTarget (deglitch : Nat) (z : Zone) : Option ZoneState :=
  match z.state with
  | .shutdown => none
  | .hot => if deglitch ≤ z.shut then some .shutdown else none
  | .warm => if deglitch ≤ z.shut then some .shutdown else if deglitch ≤ z.hot then some .hot else none
  | .normal =>
    if deglitch ≤ z.shut then some .shutdown
    else if deglitch ≤ z.hot then some .hot
    else if deglitch ≤ z.warm then some .warm
    else none

/-- R103, R104: the state below, where a move down is due. -/
def downTarget (cfg : ThermalConfig) (z : Zone) : Option ZoneState :=
  if z.down < cfg.deglitch then none
  else
    match z.state with
    | .normal => none
    | .warm => some .normal
    | .hot => some .warm
    | .shutdown => if cfg.recovery = .auto then some .hot else none

/-- A zone moved to a state; at every move the down counter becomes 0 (R103). -/
def moveZone (z : Fin 16) (st : ZoneState) (s : State) : State := s.modifyZone z fun r => { r with state := st, down := 0 }

/-- R102, R105, R106: a zone entering SHUTDOWN is black at once, and every zone with it under GLOBAL response. -/
def blackOut (z : Fin 16) (s : State) : State :=
  match s.thermal.config.response with
  | .zone => s.modifyZone z fun r => { r with scale := 0 }
  | .global =>
    { s with thermal := { s.thermal with zones := mapAll (fun r => { r with scale := 0 }) s.thermal.zones } }

/-- R102: the upward move into WARM. -/
def enterWarm (z : Fin 16) (s : State) : State := raise .zoneWarm (moveZone z .warm s)

/-- R102: the upward move into HOT. -/
def enterHot (z : Fin 16) (s : State) : State := raise .zoneHot (moveZone z .hot s)

/-- R102: the upward move into SHUTDOWN. -/
def enterShutdown (z : Fin 16) (s : State) : State := raise .zoneShutdown (blackOut z (moveZone z .shutdown s))

/-- R103, R104: the move down, where it is due; it raises no event. -/
def moveDown (z : Fin 16) (s : State) : State :=
  match downTarget s.thermal.config s.thermal.zones[z] with
  | some st => moveZone z st s
  | none => s

/-- R102–R104: the one move a zone makes at an evaluation. -/
def settleZone (z : Fin 16) (s : State) : State :=
  match upTarget s.thermal.config.deglitch s.thermal.zones[z] with
  | some .warm => enterWarm z s
  | some .hot => enterHot z s
  | some .shutdown => enterShutdown z s
  | some .normal => s
  | none => moveDown z s

/-! ## Scales (R105, R106) -/

/-- Table 6-2: a state's own target. -/
def stateTarget (cfg : ThermalConfig) : ZoneState → Nat
  | .normal => 4096
  | .warm => 4096
  | .hot => cfg.derate
  | .shutdown => 0

/-- R105: a zone's target. -/
def scaleTarget (t : Thermal) (z : Zone) : Nat :=
  if t.config.response = .global ∧ anyShutdown t.zones then 0 else stateTarget t.config z.state

/-- R105: the scale moves toward its target. -/
def moveScale (scale target step : Nat) : Nat := if target < scale then target else min target (scale + step)

/-- R105: every zone's scale at an output frame end. -/
def setScales (t : Thermal) : Thermal :=
  { t with zones := mapAll (fun z => { z with scale := moveScale z.scale (scaleTarget t z) t.config.recoveryStep }) t.zones }

/-- One zone's count and move at an output frame end. -/
def evaluateZone (z : Fin 16) (s : State) : State :=
  settleZone z
    (s.modifyZone z fun r => r.count s.thermal.config (membersOf s z).length (effectiveTemp s z))

/-- R105: every zone's scale moved at an output frame end. -/
def moveScales (s : State) : State := { s with thermal := setScales s.thermal }

/-- R98–R106: the thermal block's work at an output frame end. -/
def thermalFrameEnd (w : EndWork) : EndWork := (w.actAll ((List.finRange 16).map evaluateZone)).act moveScales

/-! ## Commands (R107–R110) -/

/-- R107: CLEAR_FAULTS at one zone. The SHUTDOWN counter stays as it stands, also where a SET_THERMAL has raised the
threshold since the last frame end and the counter is not at 0 (DESIGN CHOICE, log 35). -/
def Zone.clearFault (cfg : ThermalConfig) (z : Zone) : Zone :=
  if z.state = .shutdown ∧ cfg.recovery = .latched ∧ isCool z.temp cfg.shutdown cfg.hysteresis then
    { z with state := .hot, down := 0 }
  else z

/-- R109: a configuration written; selecting GLOBAL with a zone in SHUTDOWN zeroes every zone scale at once. -/
def setThermal (cfg : ThermalConfig) (t : Thermal) : Thermal :=
  { config := cfg
    zones :=
      if cfg.response = .global ∧ anyShutdown t.zones then mapAll (fun z => { z with scale := 0 }) t.zones
      else t.zones }

/-- R108: SET_THERMAL. -/
def execSetThermal (s : State) : Host.Outcome State Fault Refusal :=
  takeCode 0x48
    (fun p s => needLength 14 p s <| needFields (readThermalConfig p) s fun cfg =>
      done { s with thermal := setThermal cfg s.thermal })
    s

/-- R110: the READ_THERMAL data. -/
def thermalData (t : Thermal) : List Byte :=
  signed2 t.config.warnLow ++ signed2 t.config.warnHigh ++ signed2 t.config.shutdown ++ be1 t.config.hysteresis
    ++ be1 t.config.deglitch ++ be2 t.config.derate ++ be2 t.config.recoveryStep ++ be1 t.config.response.code
    ++ be1 t.config.recovery.code ++ t.zones.toList.flatMap Zone.bytes

/-- R110: READ_THERMAL. -/
def execReadThermal (s : State) : Host.Outcome State Fault Refusal :=
  takeCode 0x49 (fun p s => needLength 0 p s <| report (thermalData s.thermal) s) s

end Sys2Proof.Machine
end

