-- ==== Sys2Proof/Machine/Frame.lean ====
section
/-! DEFINITION. The output frame events and the output timing generator (R13–R17, Table 1-7): what every block does at
an output frame start and at an output frame end, and the rows that bring them about. -/

namespace Sys2Proof.Machine

/-! ## The frame latch (R61, R62, R67, R74) -/

/-- R67: the tile type entries that the look's present entries name. -/
def namedTypes (look : Look) (types : Vector (Option TileType) 8) : Vector (Option TileType) 8 :=
  Vector.ofFn fun i => if lookNames look i.val then types[i] else none

/-- R67: the raster of the READ page, under PAGE. -/
def latchedRaster (pages : Vector Page 3) : PictureSource → Option (Nat × Nat)
  | .page p => pages[p].size
  | .fill => none
  | .none => none

/-- R61, R62: the wall slot statuses of a frame. -/
def wallStatus (look : Look) (types : Vector (Option TileType) 8) (ports : Vector ChainPort 8) : Vector SlotStatus 128 :=
  Vector.ofFn fun slot =>
    slotStatus look.tiles[slot] (typeAt types look.tiles[slot].typeId) ports[slotChain slot] (slotPosition slot).val

/-- R67, Table 4-1: the latch a frame start takes. -/
def newLatch (source : PictureSource) (s : State) : FrameLatch :=
  { source := source
    raster := latchedRaster s.store.pages source
    fill := s.store.fill
    look := s.looks.active
    types := namedTypes s.looks.active s.looks.types
    status := wallStatus s.looks.active (namedTypes s.looks.active s.looks.types) s.ports
    master := s.power.master
    zoneScale := mapAll Zone.scale s.thermal.zones
    limiter := mapAll Limiter.scale s.power.limiters
    composite := mapAll (fun z => scaleBy s.power.master z.scale) s.thermal.zones }

/-- R62: some slot becomes MISMATCH, having had another status in the frame before. -/
def mismatchArises (old new : Vector SlotStatus 128) : Bool :=
  (List.finRange 128).any fun slot => new[slot] == .mismatch && old[slot] != .mismatch

/-- R62, R67: the latch taken, and TILE_MISMATCH raised where a slot becomes MISMATCH (log 23). -/
def takeLatch (source : PictureSource) (s : State) : State :=
  let latch := newLatch source s
  raiseWhen (mismatchArises s.comp.status latch.status) .tileMismatch { s with comp := latch }

/-! ## What the chain ports send (R50, R51, R53, R76) -/

/-- R50, R51, R53: the packets a port sends in the frame that begins, by the state it holds at the frame start (R60). -/
def portSends (s : State) (c : Fin 8) : List (List Byte) :=
  match s.ports[c].state with
  | .probe => if s.ports[c].probes then [probeRequest] else []
  | .enumerate => [enumerateRequest]
  | .run => chainLines s.comp s.store.pages c s.ports[c].roster
  | .off => []
  | .failed => []

/-- R50, R51, R53: every port's sending, with the windows it opens; what is sent within the frame is put down at its
start (log 12). -/
def sendPorts (s : State) : State :=
  { s with
    ports := mapAll ChainPort.frameStart s.ports
    out := { s.out with chains := Vector.ofFn (portSends s) } }

/-- R76, R90: the demand of every chain in RUN added to its accumulator (log 12). -/
def addDemand (s : State) : State :=
  { s with
    power :=
      { s.power with
        limiters := Vector.ofFn fun c : Fin 8 =>
          if s.ports[c].state = .run then
            { s.power.limiters[c] with
              acc := s.power.limiters[c].acc + chainDemand s.comp s.store.pages c s.ports[c].roster }
          else s.power.limiters[c] } }

/-! ## Output frame start (R17) -/

/-- R17: the frame number goes up by one modulo 2^32, and a pending rate code takes effect. -/
def beginFrame (s : State) : State :=
  { s with
    timing :=
      { s.timing with
        frame := s.timing.frame + 1
        rate := s.timing.pendingRate.getD s.timing.rate
        pendingRate := none
        phase := .active
        held := false } }

/-- R17, Table 1-7: an output frame start. The two masters and the fades step before the latch and the slot images
use them (R87, R141, R143, R150); the rest is independent (log 7). -/
def frameStart (s : State) : State :=
  let settled := storeFrameStart (beginFrame s)
  let latched := takeLatch settled.2 (stepLightMaster (stepFades (stepMaster settled.1)))
  sendLevels (composeImages (stepFollow (measureRegions (addDemand (sendPorts (markMeasured latched))))))

/-- R13–R17: a frame start of the free-running generator can come: the reference state is not LOCKED, where REF pulses
alone start frames, and the frame end before it has been raised (log 6). -/
def freeRunReady (t : Timing) : Bool := t.ref != .locked && t.phase != .active

/-- R13, R15, R17: OUTPUT_FRAME_START, a frame start of the free-running generator; in LOCKED and within a frame there
is none, and nothing changes (log 6). -/
def execOutputFrameStart (s : State) : Host.Outcome State Fault Refusal :=
  .next (if freeRunReady s.timing then frameStart s else s)

/-- R11: a frame start taken now raises input loss: input loss is not active, the frame start makes no page READ, and
the repeat count it reaches is at or above the hold limit. -/
def lossAhead (st : FrameStore) : Bool := lossDue (settlePages st)

/-- R11: INPUT_LOSS, an OUTPUT_FRAME_START at which input loss is raised (log 4). -/
def execInputLoss (s : State) : Host.Outcome State Fault Refusal :=
  .next (if freeRunReady s.timing && lossAhead s.store then frameStart s else s)

/-! ## Output frame end (R17) -/

/-- The chain ports' and the thermal block's evaluations, in either order (R54, R100). -/
def portsAndThermal (thermalFirst : Bool) (w : EndWork) : EndWork :=
  if thermalFirst then portsFrameEnd (thermalFrameEnd w) else thermalFrameEnd (portsFrameEnd w)

/-- The same, with the power block's evaluation before or after them (R93). -/
def blocksFrameEnd (order : FrameEndOrder) (w : EndWork) : EndWork :=
  if order.powerFirst then portsAndThermal order.thermalFirst (powerFrameEnd w)
  else powerFrameEnd (portsAndThermal order.thermalFirst w)

/-- Every block's work at an output frame end, the event unit's count (R175) where the order puts it (log 8), and a
check completion that comes together with the frame end behind the cue engine's work (R40, log 34). -/
def frameEndWork (order : FrameEndOrder) (s : State) : State :=
  ((blocksFrameEnd order ((cuesFrameEnd { state := s, left := some order.countAt }).act checkFrameEnd)).act
    publishAverages).finish

/-- R17: the frame end has been raised. -/
def endFrame (s : State) : State := { s with timing := { s.timing with phase := .ended } }

/-- R14, R15, R17: an output frame end; a held frame start is raised immediately after it. -/
def frameEnd (order : FrameEndOrder) (s : State) : State :=
  let ended := endFrame (frameEndWork order s)
  if ended.timing.held then frameStart ended else ended

/-- R17: OUTPUT_FRAME_END. With no frame in progress there is none to end, and nothing changes (log 6). -/
def execOutputFrameEnd (order : FrameEndOrder) (s : State) : Host.Outcome State Fault Refusal :=
  .next (if s.timing.phase = .active then frameEnd order s else s)

/-! ## What comes about at an output frame end, as rows (log 4) -/

/-- The order of the work at an output frame end whose row does not say it: free (log 4). -/
def freeOrder (s : State) : FrameEndOrder :=
  { thermalFirst := Config.thermalFirst s.freeIndex, powerFirst := Config.powerFirst s.freeIndex
    countAt := Config.countAt s.freeIndex }

/-- The free values at the index have been read (log 14). -/
def nextFree (s : State) : State := { s with freeIndex := s.freeIndex + 1 }

/-- An output frame end taken because of something that comes about at it. Outside a frame there is none, and where the
thing does not come about the row stands for nothing: then nothing changes (log 4). -/
def frameEndWhen (comes : Bool) (s : State) : State :=
  if s.timing.phase = .active ∧ comes then frameEnd (freeOrder s) (nextFree s) else s

/-- R55: TILE_SILENT, an output frame end whose freshness evaluation marks this position SILENT. -/
def execTileSilent (c : Fin 8) (i : Fin 16) (s : State) : Host.Outcome State Fault Refusal :=
  .next (frameEndWhen (silentDue s.ports[c].evaluate i) s)

/-- R56: CHAIN_FAILED, an output frame end whose freshness evaluation fails this chain. -/
def execChainFailed (c : Fin 8) (s : State) : Host.Outcome State Fault Refusal :=
  .next (frameEndWhen (failureDue s.ports[c].evaluate) s)

/-- R57: HOLDOFF_EXPIRY, an output frame end at which this chain's holdoff count reaches the holdoff. -/
def execHoldoffExpiry (c : Fin 8) (s : State) : Host.Outcome State Fault Refusal :=
  .next (frameEndWhen (recoveryDue s.ports[c].countHoldoff) s)

/-- The state of a zone before and after the evaluation of an output frame end taken now, in the free order. -/
def zoneMove (z : Fin 16) (s : State) : ZoneState × ZoneState :=
  (s.thermal.zones[z].state, (frameEndWork (freeOrder s) (nextFree s)).thermal.zones[z].state)

/-- R102: ZONE_WARM, an output frame end at which this zone moves up into WARM. -/
def execZoneWarm (z : Fin 16) (s : State) : Host.Outcome State Fault Refusal :=
  .next (frameEndWhen (zoneMove z s == (.normal, .warm)) s)

/-- R102: ZONE_HOT, an output frame end at which this zone moves up into HOT. -/
def execZoneHot (z : Fin 16) (s : State) : Host.Outcome State Fault Refusal :=
  .next (frameEndWhen (zoneMove z s == (.normal, .hot) || zoneMove z s == (.warm, .hot)) s)

/-- R102: ZONE_SHUTDOWN, an output frame end at which this zone enters SHUTDOWN. -/
def execZoneShutdown (z : Fin 16) (s : State) : Host.Outcome State Fault Refusal :=
  .next (frameEndWhen ((zoneMove z s).1 != .shutdown && (zoneMove z s).2 == .shutdown) s)

/-- R103: ZONE_STEP_DOWN, an output frame end at which this zone moves from HOT to WARM or from WARM to NORMAL. -/
def execZoneStepDown (z : Fin 16) (s : State) : Host.Outcome State Fault Refusal :=
  .next (frameEndWhen (zoneMove z s == (.hot, .warm) || zoneMove z s == (.warm, .normal)) s)

/-- R104: ZONE_SHUTDOWN_EXIT, an output frame end at which this zone leaves SHUTDOWN for HOT. -/
def execZoneShutdownExit (z : Fin 16) (s : State) : Host.Outcome State Fault Refusal :=
  .next (frameEndWhen (zoneMove z s == (.shutdown, .hot)) s)

/-! ## The reference (R14–R16) -/

/-- R14, R15: a frame start at once, or held until the current frame end. -/
def startOrHold (s : State) : State :=
  if s.timing.phase = .active then { s with timing := { s.timing with held := true } } else frameStart s

/-- The reference state set. -/
def setReference (r : RefState) (s : State) : State := { s with timing := { s.timing with ref := r } }

/-- R14, R16: REF_PULSE. -/
def execRefPulse (s : State) : Host.Outcome State Fault Refusal :=
  .next (startOrHold (raiseWhen (s.timing.ref == .lost) .refRestored (setReference .locked s)))

/-- R15: REF_LOSS_TIMEOUT. Loss is declared in LOCKED alone; in another state nothing changes (log 9). -/
def execRefLossTimeout (s : State) : Host.Outcome State Fault Refusal :=
  .next (if s.timing.ref = .locked then startOrHold (raise .refLoss (setReference .lost s)) else s)

end Sys2Proof.Machine
end

