-- ==== Sys2Proof/Machine/EventCommands.lean ====
section
/-! DEFINITION. Chapter 11: the commands of the event unit, the counter sets, and the notice rows. -/

namespace Sys2Proof.Machine

/-- R174: the source flags in the three bytes of the CLEAR_EVENTS mask, then the group flags (R183). -/
def flagsData (u : EventUnit) : List Byte :=
  be1 (u.flags.toNat / 65536) ++ be2 u.flags.toNat ++ be1 u.groups.toNat

/-- R174: the mask of a CLEAR_EVENTS payload. -/
def eventMask (p : List Byte) : BitVec 24 := BitVec.ofNat 24 (u8 p 0 * 65536 + u16 p 1)

/-- R174: CLEAR_EVENTS. -/
def execClearEvents (s : State) : Host.Outcome State Fault Refusal :=
  takeCode 0x78
    (fun p s => needLength 3 p s <|
      report (flagsData s.events) { s with events := { s.events with flags := s.events.flags &&& ~~~(eventMask p) } })
    s

/-- R175: the seven enables of a SET_NOTICE payload; none when a code names neither yes nor no. -/
def readEnables (p : List Byte) : Option (BitVec 7) :=
  if (List.range 7).all fun i => decide (u8 p i ≤ 1) then
    some (BitVec.ofNat 7 ((List.range 7).map fun i => u8 p i * 2 ^ i).sum)
  else none

/-- R175: SET_NOTICE; the due test is made when it is taken. -/
def execSetNotice (s : State) : Host.Outcome State Fault Refusal :=
  takeCode 0x79
    (fun p s => needLength 9 p s <|
      need (u8 p 7 != 0 && decide (u8 p 7 ≤ 16) && u8 p 8 != 0) .badArgument s <|
        needFields (readEnables p) s fun e =>
          done
            (dueTest
              { s with events := { s.events with enables := e, countThreshold := u8 p 7, frameThreshold := u8 p 8 } }))
    s

/-! ## Faults (R178) -/

/-- R59, R107, R178: every owner acts under its own rule. -/
def clearFaults (s : State) : State :=
  { s with
    ports := mapAll ChainPort.clearFault s.ports
    thermal := { s.thermal with zones := mapAll (Zone.clearFault s.thermal.config) s.thermal.zones } }

/-- R178: the chain ports still in FAILED. -/
def failedChains (s : State) : List Nat := (placesWhere (fun p => p.state == .failed) s.ports).map Fin.val

/-- R178: the zones still in SHUTDOWN. -/
def shutdownZones (s : State) : List Nat := (placesWhere (fun z => z.state == .shutdown) s.thermal.zones).map Fin.val

/-- R178, R181: a list of numbers in a reply, one byte each; what marks off the list is free (log 19). -/
def listBytes (xs : List Nat) : List Byte :=
  Config.listBefore xs.length ++ xs.flatMap be1 ++ Config.listAfter xs.length

/-- R178, R181: the faults still present: the chains, the zones, and whether input loss is active. -/
def faultData (s : State) : List Byte :=
  listBytes (failedChains s) ++ listBytes (shutdownZones s) ++ yesNo s.store.lossActive

/-- R178: CLEAR_FAULTS. -/
def execClearFaults (s : State) : Host.Outcome State Fault Refusal :=
  takeCode 0x7A (fun p s => needLength 0 p s <| report (faultData (clearFaults s)) (clearFaults s)) s

/-! ## Counters (R179) -/

/-- Table 11-3: the INPUT set. -/
def inputCounters (s : State) : List Counter := [s.link.lineBad, s.store.dropped, s.store.repeated, s.store.bad]

/-- Table 11-3: the INTAKE set. -/
def intakeCounters (s : State) : List Counter :=
  [s.intake.framing, s.intake.check, s.intake.misplaced, s.intake.intakeFull, s.intake.repliesDropped, s.ret.drops]

/-- Table 11-3: the CHAIN set of one chain. -/
def chainCounters (p : ChainPort) : List Counter := [p.linkErrors, p.enumFails, p.silentEvents]

/-- R179: the INPUT set cleared. -/
def clearInputCounters (s : State) : State :=
  { s with
    link := { s.link with lineBad := Counter.zero }
    store := { s.store with dropped := Counter.zero, repeated := Counter.zero, bad := Counter.zero } }

/-- R179: the INTAKE set cleared. -/
def clearIntakeCounters (s : State) : State :=
  { s with
    intake :=
      { s.intake with
        framing := Counter.zero, check := Counter.zero, misplaced := Counter.zero, intakeFull := Counter.zero
        repliesDropped := Counter.zero }
    ret := { s.ret with drops := Counter.zero } }

/-- R179: a counter set. -/
inductive CounterSet where
  | input | intake | chain (c : Fin 8)
  deriving DecidableEq, Repr

/-- R179: the set a READ_COUNTERS payload names; the chain number is examined for CHAIN alone (R183). -/
def readCounterSet (p : List Byte) : Option CounterSet :=
  match u8 p 0 with
  | 0 => some .input
  | 1 => some .intake
  | 2 => if h : u8 p 1 < 8 then some (.chain ⟨u8 p 1, h⟩) else none
  | _ => none

/-- The counters of a set. -/
def countersOf (s : State) : CounterSet → List Counter
  | .input => inputCounters s
  | .intake => intakeCounters s
  | .chain c => chainCounters s.ports[c]

/-- The counters of a set cleared with their overflow flags. -/
def clearSet (s : State) : CounterSet → State
  | .input => clearInputCounters s
  | .intake => clearIntakeCounters s
  | .chain c => s.modifyPort c ChainPort.clearCounters

/-- R179: READ_COUNTERS. -/
def execReadCounters (s : State) : Host.Outcome State Fault Refusal :=
  takeCode 0x7B
    (fun p s => needLength 3 p s <| needFields (readCounterSet p) s fun set => needFields (readYesNo p 2) s fun clear =>
      report ((countersOf s set).flatMap Counter.bytes) (if clear then clearSet s set else s))
    s

/-! ## Notices (R175, R176) -/

/-- R175: NOTICE_DUE, the due test (log 4). -/
def execNoticeDue (s : State) : Host.Outcome State Fault Refusal := .next (dueTest s)

/-- R176: NOTICE_QUEUED: a due notice takes a free own-queue slot. -/
def execNoticeQueued (s : State) : Host.Outcome State Fault Refusal := .next (tryNotice s)

/-- R180: a SOFT or TABLES reset. -/
def EventUnit.reset (u : EventUnit) : EventUnit :=
  { u with flags := 0, groups := 0, pending := 0, frames := 0, due := false }

end Sys2Proof.Machine
end

