-- ==== Sys2Proof/Machine/Intake.lean ====
section
/-! DEFINITION. Chapter 10: the forward lane's sorting, margin packets, the return merger's rows, and the commands the
intake owns. The resets stand in Resets.lean. -/

namespace Sys2Proof.Machine

/-! ## The three tests of a margin packet (R160) -/

/-- What a margin packet is, once judged. -/
inductive MarginVerdict where
  | framing | check | misplaced | passed
  deriving DecidableEq, Repr

/-- R160, R181: the framing test, over the bytes after the type byte; a packet shorter than 8 bytes fails it. -/
def framingOk (body : List Byte) : Bool :=
  decide (7 ≤ body.length) && decide (u16 body 3 ≤ 1024) && u16 body 3 == body.length - 7

/-- R160: the three tests in their order. -/
def judgeMargin (assembly : Assembly) (body : List Byte) : MarginVerdict :=
  if framingOk body then
    if checkRight (3 :: body) then (if assembly = .open then .misplaced else .passed) else .check
  else .framing

/-- R160: FRAMING is incremented. -/
def countFraming (s : State) : State := { s with intake := { s.intake with framing := s.intake.framing.inc } }

/-- R160: CHECK is incremented. -/
def countCheck (s : State) : State := { s with intake := { s.intake with check := s.intake.check.inc } }

/-- R160: MISPLACED is incremented. -/
def countMisplaced (s : State) : State := { s with intake := { s.intake with misplaced := s.intake.misplaced.inc } }

/-! ## Address matching (R161) -/

/-- R161: slot 3 is set and matches an address under the mask. -/
def groupMatches (i : Intake) (a : Byte) : Bool :=
  match i.slot3 with
  | some g => a &&& i.mask == g &&& i.mask
  | none => false

/-- R161: the match of a destination address. -/
def matchAddress (i : Intake) (a : Byte) : Option MatchKind :=
  if a = 0x00 then none
  else if a = 0xFF then some .broadcast
  else if a = i.slot0 ∨ i.slot1 = some a ∨ i.slot2 = some a then some .direct
  else if groupMatches i a then some .group
  else none

/-! ## The intake queue (R164) -/

/-- R164: the entry a margin packet makes. -/
def entryOf (kind : MatchKind) (body : List Byte) : Entry :=
  { kind := kind, dest := body.getD 0 0, code := body.getD 1 0, tag := body.getD 2 0
    payload := (body.drop 5).take (body.length - 7) }

/-- R164: the FULL reply to a direct packet refused entry, in a free slot or dropped. -/
def replyFull (e : Entry) (s : State) : State :=
  if s.ret.free = 0 then { s with intake := { s.intake with repliesDropped := s.intake.repliesDropped.inc } }
  else placeOwn (.reply e.dest (statusByte s) e.code e.tag .full []) s

/-- R164: a matched packet offered to the intake queue; the executor looks at the queue's oldest command. -/
def offer (e : Entry) (s : State) : State :=
  if s.intake.queue.length < Config.intakeSize then
    lookIntake { s with intake := { s.intake with queue := s.intake.queue ++ [e] } }
  else
    match e.kind with
    | .direct => replyFull e s
    | .group => { s with intake := { s.intake with intakeFull := s.intake.intakeFull.inc } }
    | .broadcast => { s with intake := { s.intake with intakeFull := s.intake.intakeFull.inc } }

/-- R161, R162: a packet that passed the tests, passed on unless it is matched as direct. -/
def routeMargin (body : List Byte) (s : State) : State :=
  match matchAddress s.intake (body.getD 0 0) with
  | none => s.passOn (3 :: body)
  | some .direct => offer (entryOf .direct body) s
  | some .group => offer (entryOf .group body) (s.passOn (3 :: body))
  | some .broadcast => offer (entryOf .broadcast body) (s.passOn (3 :: body))

/-- R160–R164: a margin packet, the bytes after its type byte. -/
def takeMargin (body : List Byte) (s : State) : State :=
  match judgeMargin s.link.assembly body with
  | .framing => (countFraming s).passOn (3 :: body)
  | .check => (countCheck s).passOn (3 :: body)
  | .misplaced => (countMisplaced s).passOn (3 :: body)
  | .passed => routeMargin body s

/-- R160–R164: MARGIN_PACKET. -/
def execMarginPacket (body : List Byte) (s : State) : Host.Outcome State Fault Refusal := .next (takeMargin body s)

/-! ## Sorting the forward lane (R181) -/

/-- R181: a forward-lane packet sorted by its type byte; one that is no marker, line or margin packet is passed on
and otherwise ignored (log 27). -/
def takeForward (bytes : List Byte) (s : State) : State :=
  if isMarker bytes then takeMarker (w16 bytes 1) (u16 bytes 3) (u16 bytes 5) (s.passOn bytes)
  else if isLine bytes then
    takeLine (u16 bytes 1) (u16 bytes 3) (pixelsCarried ((bytes.drop 5).take (bytes.length - 7))) (checkRight bytes)
      (s.passOn bytes)
  else if isMargin bytes then takeMargin (bytes.drop 1) s
  else s.passOn bytes

/-- R181: UNKNOWN_FORWARD_PACKET. -/
def execUnknownForwardPacket (bytes : List Byte) (s : State) : Host.Outcome State Fault Refusal :=
  .next (takeForward bytes s)

/-! ## The return lane (R168, R169, R176) -/

/-- R168: a packet from the through link joins the pass queue, and the arbiter sees it at once. -/
def appendPass (bytes : List Byte) (s : State) : State :=
  startSend { s with ret := { s.ret with pass := s.ret.pass ++ [bytes] } }

/-- R168: PASS_PACKET_ARRIVAL. -/
def execPassPacketArrival (bytes : List Byte) (s : State) : Host.Outcome State Fault Refusal :=
  .next
    (if s.ret.pass.length < Config.passSize then appendPass bytes s
     else { s with ret := { s.ret with drops := s.ret.drops.inc } })

/-- R176: a freed slot may also be claimed by the executor for a waiting command or by a FULL reply. -/
def slotContested (i : Intake) : Bool := i.executor == .waiting || decide (Config.intakeSize ≤ i.queue.length)

/-- R169, R176: the send completes and the arbiter starts the next one. A due notice takes the freed slot unless
another may claim it; then the next row decides (log 16). -/
def completeSend (s : State) : State :=
  let s' := startSend { s with ret := { s.ret with sending := none } }
  if slotContested s'.intake then s' else tryNotice s'

/-- R169: SEND_COMPLETION. With the lane idle there is no send to complete, and nothing changes (log 9). -/
def execSendCompletion (s : State) : Host.Outcome State Fault Refusal :=
  .next (if s.ret.sending.isSome then completeSend s else s)

/-! ## Commands -/

/-- R166, step 1: UNKNOWN_COMMAND, a code outside the catalogue. -/
def execUnknownCommand (s : State) : Host.Outcome State Fault Refusal :=
  takeCommand (fun e => !catalogue.contains e.code) (fun _ s => refuse .badCommand s) s

/-- R170: the READ_IDENTITY data. -/
def identityData (p : Pins) : List Byte :=
  be2 Config.vendorCode ++ be2 Config.partCode ++ be1 Config.revisionCode ++ be1 p.addrStrap.toNat
    ++ be1 p.rateStrap.toNat

/-- R170: READ_IDENTITY. -/
def execReadIdentity (s : State) : Host.Outcome State Fault Refusal :=
  takeCode 0x01 (fun p s => needLength 0 p s <| report (identityData s.pins) s) s

/-- R170: the READ_STATUS data. -/
def statusData (s : State) : List Byte :=
  [statusByte s] ++ be4 s.timing.frame.toNat ++ be1 s.store.inputState.code ++ be1 s.looks.staged.code
    ++ s.looks.result.bytes ++ be4 s.looks.active.label.toNat ++ s.ports.toList.flatMap (fun p => be1 p.state.code)
    ++ s.thermal.zones.toList.flatMap (fun z => be1 z.state.code) ++ be2 s.power.master
    ++ s.power.limiters.toList.flatMap (fun l => be2 l.scale) ++ be2 s.cues.lastFired ++ be1 s.cues.queue.length
    ++ be2 (poolFree s.lights.scenes) ++ yesNo s.pins.tally

/-- R170: READ_STATUS. -/
def execReadStatus (s : State) : Host.Outcome State Fault Refusal :=
  takeCode 0x02 (fun p s => needLength 0 p s <| report (statusData s) s) s

/-- R163: an address field, unset when 0; 0xFF is out of range. -/
def readSlot (b : Byte) : Option (Option Byte) :=
  if b = 0xFF then none else if b = 0x00 then some none else some (some b)

/-- R163: the address slots a SET_ADDRESSES payload writes. -/
def readAddresses (p : List Byte) (i : Intake) : Option Intake :=
  match readSlot (p.getD 0 0), readSlot (p.getD 1 0), readSlot (p.getD 2 0) with
  | some a, some b, some c => some { i with slot1 := a, slot2 := b, slot3 := c, mask := p.getD 3 0 }
  | _, _, _ => none

/-- R163: SET_ADDRESSES. -/
def execSetAddresses (s : State) : Host.Outcome State Fault Refusal :=
  takeCode 0x03
    (fun p s => needLength 4 p s <| needFields (readAddresses p s.intake) s fun i => done { s with intake := i }) s

end Sys2Proof.Machine
end

