-- ==== Sys2Proof/Machine/Resets.lean ====
section
/-! DEFINITION. The three resets: POWER_ON_RESET and the two kinds of RESET_UNIT (R21, R46, R66, R83, R88, R96, R112,
R129, R145, R159, R171, R172, R180). -/

namespace Sys2Proof.Machine

/-- R21 and the reset rule of every chapter: POWER_ON_RESET. The pins keep their levels; the rows waiting, the index
of the free values and the record of what has been sent are the model's own and stay (log 14, log 15). -/
def execPowerOnReset (s : State) : Host.Outcome State Fault Refusal :=
  let r := State.powerOn s.pins
  .next
    { r with
      out := { r.out with through := s.out.through, upstream := s.out.upstream }
      freeIndex := s.freeIndex
      pending := s.pending }

/-- R179, R180: every counter of every set cleared with its overflow flag. -/
def clearCounters (s : State) : State :=
  let s' := clearInputCounters (clearIntakeCounters s)
  { s' with ports := mapAll ChainPort.clearCounters s'.ports }

/-- R171: what both kinds do: the intake queue and the cue queue emptied, the wall master ramp frozen, flags, notice
state and counters cleared. -/
def resetCommon (s : State) : State :=
  let s' := clearCounters s
  { s' with
    intake := { s'.intake with queue := [], executor := .idle }
    cues := s'.cues.reset
    power := { s'.power with ramp := s'.power.ramp.freeze }
    events := s'.events.reset }

/-- R171: a SOFT reset. -/
def softReset (s : State) : State :=
  let s' := resetCommon s
  { s' with looks := s'.looks.softReset, lights := s'.lights.softReset }

/-- R171: a TABLES reset; the follow values go with their fixtures (R159). -/
def tablesReset (s : State) : State :=
  let s' := resetCommon s
  { s' with
    looks := s'.looks.tablesReset
    lights := s'.lights.tablesReset
    follow := { s'.follow with values := Vector.replicate 96 (Rgb.all 0) } }

/-- R166, R171: the reset a RESET_UNIT payload names. -/
def resetUnit (p : List Byte) (s : State) : Taken :=
  needLength 1 p s <| needUnguarded s <|
    match u8 p 0 with
    | 0 => done (softReset s)
    | 1 => done (tablesReset s)
    | _ => refuse .badArgument s

/-- A RESET_UNIT entry whose kind field names TABLES. -/
def namesTables (e : Entry) : Bool := e.code == 0x04 && u8 e.payload 0 == 1

/-- A RESET_UNIT entry of any other kind field, those that are refused among them (log 3). -/
def namesSoft (e : Entry) : Bool := e.code == 0x04 && u8 e.payload 0 != 1

/-- R171: SOFT_RESET. -/
def execSoftReset (s : State) : Host.Outcome State Fault Refusal := takeCommand namesSoft resetUnit s

/-- R171: TABLES_RESET. -/
def execTablesReset (s : State) : Host.Outcome State Fault Refusal := takeCommand namesTables resetUnit s

end Sys2Proof.Machine
end

