-- ==== Sys2Proof/Machine/Dispatch.lean ====
section
/-! DEFINITION. One arm per row of spec/opcode_table.json: the row's meaning, each a definition of its own. -/

namespace Sys2Proof.Machine

/-- The effect of one row on everything but the queue of waiting rows. -/
def exec (i : Instr) (s : State) : Host.Outcome State Fault Refusal :=
  match i with
  | .powerOnReset => Sys2Proof.Machine.execPowerOnReset s
  | .frameStartMarker seq width height => Sys2Proof.Machine.execFrameStartMarker seq width height s
  | .linePacket line count pixels check => Sys2Proof.Machine.execLinePacket line count pixels check s
  | .marginPacket body => Sys2Proof.Machine.execMarginPacket body s
  | .unknownForwardPacket bytes => Sys2Proof.Machine.execUnknownForwardPacket bytes s
  | .refPulse => Sys2Proof.Machine.execRefPulse s
  | .refLossTimeout => Sys2Proof.Machine.execRefLossTimeout s
  | .outputFrameStart => Sys2Proof.Machine.execOutputFrameStart s
  | .outputFrameEnd order => Sys2Proof.Machine.execOutputFrameEnd order s
  | .inputLoss => Sys2Proof.Machine.execInputLoss s
  | .tileSilent chain position => Sys2Proof.Machine.execTileSilent chain position s
  | .chainFailed chain => Sys2Proof.Machine.execChainFailed chain s
  | .holdoffExpiry chain => Sys2Proof.Machine.execHoldoffExpiry chain s
  | .zoneWarm zone => Sys2Proof.Machine.execZoneWarm zone s
  | .zoneHot zone => Sys2Proof.Machine.execZoneHot zone s
  | .zoneShutdown zone => Sys2Proof.Machine.execZoneShutdown zone s
  | .zoneStepDown zone => Sys2Proof.Machine.execZoneStepDown zone s
  | .zoneShutdownExit zone => Sys2Proof.Machine.execZoneShutdownExit zone s
  | .noticeDue => Sys2Proof.Machine.execNoticeDue s
  | .noticeQueued => Sys2Proof.Machine.execNoticeQueued s
  | .tallyRisingEdge => Sys2Proof.Machine.execTallyRisingEdge s
  | .tallyFallingEdge => Sys2Proof.Machine.execTallyFallingEdge s
  | .checkCompletion => Sys2Proof.Machine.execCheckCompletion s
  | .identityArrival chain bytes => Sys2Proof.Machine.execIdentityArrival chain bytes s
  | .tileReportArrival chain bytes => Sys2Proof.Machine.execTileReportArrival chain bytes s
  | .passPacketArrival bytes => Sys2Proof.Machine.execPassPacketArrival bytes s
  | .sendCompletion => Sys2Proof.Machine.execSendCompletion s
  | .unknownCommand => Sys2Proof.Machine.execUnknownCommand s
  | .readIdentity => Sys2Proof.Machine.execReadIdentity s
  | .readStatus => Sys2Proof.Machine.execReadStatus s
  | .setAddresses => Sys2Proof.Machine.execSetAddresses s
  | .softReset => Sys2Proof.Machine.execSoftReset s
  | .tablesReset => Sys2Proof.Machine.execTablesReset s
  | .setInput => Sys2Proof.Machine.execSetInput s
  | .setOutput => Sys2Proof.Machine.execSetOutput s
  | .readInput => Sys2Proof.Machine.execReadInput s
  | .writeTiles => Sys2Proof.Machine.execWriteTiles s
  | .writeProfiles => Sys2Proof.Machine.execWriteProfiles s
  | .writeCurve => Sys2Proof.Machine.execWriteCurve s
  | .writeRegions => Sys2Proof.Machine.execWriteRegions s
  | .setLookFields => Sys2Proof.Machine.execSetLookFields s
  | .clearStaged => Sys2Proof.Machine.execClearStaged s
  | .copyActive => Sys2Proof.Machine.execCopyActive s
  | .checkLook => Sys2Proof.Machine.execCheckLook s
  | .readLook => Sys2Proof.Machine.execReadLook s
  | .writeTileType => Sys2Proof.Machine.execWriteTileType s
  | .setChain => Sys2Proof.Machine.execSetChain s
  | .restartChain => Sys2Proof.Machine.execRestartChain s
  | .readRoster => Sys2Proof.Machine.execReadRoster s
  | .setMaster => Sys2Proof.Machine.execSetMaster s
  | .setThermal => Sys2Proof.Machine.execSetThermal s
  | .readThermal => Sys2Proof.Machine.execReadThermal s
  | .addCue => Sys2Proof.Machine.execAddCue s
  | .cancelCue => Sys2Proof.Machine.execCancelCue s
  | .clearCues => Sys2Proof.Machine.execClearCues s
  | .readCues => Sys2Proof.Machine.execReadCues s
  | .setGuard => Sys2Proof.Machine.execSetGuard s
  | .writeFixtures => Sys2Proof.Machine.execWriteFixtures s
  | .deleteFixture => Sys2Proof.Machine.execDeleteFixture s
  | .beginScene => Sys2Proof.Machine.execBeginScene s
  | .sceneEntries => Sys2Proof.Machine.execSceneEntries s
  | .deleteScene => Sys2Proof.Machine.execDeleteScene s
  | .setLightMaster => Sys2Proof.Machine.execSetLightMaster s
  | .readFixtures => Sys2Proof.Machine.execReadFixtures s
  | .readScene => Sys2Proof.Machine.execReadScene s
  | .setLine => Sys2Proof.Machine.execSetLine s
  | .readFollow => Sys2Proof.Machine.execReadFollow s
  | .clearEvents => Sys2Proof.Machine.execClearEvents s
  | .setNotice => Sys2Proof.Machine.execSetNotice s
  | .clearFaults => Sys2Proof.Machine.execClearFaults s
  | .readCounters => Sys2Proof.Machine.execReadCounters s

end Sys2Proof.Machine
end

