-- ==== Sys2Proof/Machine/Step.lean ====
section
/-! DEFINITION. One step of the part: the row at the front of the queue. -/

namespace Sys2Proof.Machine

/-- The rows waiting, set. -/
def State.setPending (s : State) (rows : List Instr) : State := { s with pending := rows }

/-- One step: the first row waiting, run on the state with the queue's rest. With none waiting the part idles
(log 5). -/
def step (s : State) : Host.Outcome State Fault Refusal :=
  match s.pending with
  | [] => .next s
  | c :: rest => exec c (s.setPending rest)

/-- The state with the row a word spells put at the front of its queue; unchanged where the word spells none. -/
def State.withFetchWord (s : State) (nbits w : Nat) : State :=
  match decodeTableWord nbits w with
  | some c => s.setPending (c :: s.pending)
  | none => s

end Sys2Proof.Machine
end

