-- ==== Sys2Proof/Safety.lean ====
section
/-! DEFINITION. What counts as a safe state: the laws that the manual states of the whole part, each as a predicate of
State, and the words that statements about commands share. -/

namespace Sys2Proof.Machine

/-! ## Commands -/

/-- R165: e is the oldest command of the intake queue, with rest behind it, and the executor can take it: it is a group
or broadcast command, or an own-queue slot is free. -/
def Takes (s : State) (e : Entry) (rest : List Entry) : Prop :=
  s.intake.queue = e :: rest ∧ (e.kind = .direct → s.ret.free ≠ 0)

/-- Table 10-4, R166: the entries a command row takes: those of its code; UNKNOWN_COMMAND takes every code outside the
catalogue, and the two rows of RESET_UNIT share its code by their kind (log 3). No other row takes a command. -/
def rowTakes (i : Instr) (e : Entry) : Bool :=
  match i with
  | .unknownCommand => !catalogue.contains e.code
  | .readIdentity => e.code == 0x01
  | .readStatus => e.code == 0x02
  | .setAddresses => e.code == 0x03
  | .softReset => namesSoft e
  | .tablesReset => namesTables e
  | .setInput => e.code == 0x10
  | .setOutput => e.code == 0x11
  | .readInput => e.code == 0x12
  | .writeTiles => e.code == 0x20
  | .writeProfiles => e.code == 0x21
  | .writeCurve => e.code == 0x22
  | .writeRegions => e.code == 0x23
  | .setLookFields => e.code == 0x24
  | .clearStaged => e.code == 0x25
  | .copyActive => e.code == 0x26
  | .checkLook => e.code == 0x27
  | .readLook => e.code == 0x28
  | .writeTileType => e.code == 0x29
  | .setChain => e.code == 0x30
  | .restartChain => e.code == 0x31
  | .readRoster => e.code == 0x32
  | .setMaster => e.code == 0x40
  | .setThermal => e.code == 0x48
  | .readThermal => e.code == 0x49
  | .addCue => e.code == 0x50
  | .cancelCue => e.code == 0x51
  | .clearCues => e.code == 0x52
  | .readCues => e.code == 0x53
  | .setGuard => e.code == 0x54
  | .writeFixtures => e.code == 0x60
  | .deleteFixture => e.code == 0x61
  | .beginScene => e.code == 0x62
  | .sceneEntries => e.code == 0x63
  | .deleteScene => e.code == 0x64
  | .setLightMaster => e.code == 0x65
  | .readFixtures => e.code == 0x66
  | .readScene => e.code == 0x67
  | .setLine => e.code == 0x70
  | .readFollow => e.code == 0x71
  | .clearEvents => e.code == 0x78
  | .setNotice => e.code == 0x79
  | .clearFaults => e.code == 0x7A
  | .readCounters => e.code == 0x7B
  | _ => false

/-- The command rows of the table. -/
def commandRows : List Instr :=
  [.unknownCommand, .readIdentity, .readStatus, .setAddresses, .softReset, .tablesReset, .setInput, .setOutput,
   .readInput, .writeTiles, .writeProfiles, .writeCurve, .writeRegions, .setLookFields, .clearStaged, .copyActive,
   .checkLook, .readLook, .writeTileType, .setChain, .restartChain, .readRoster, .setMaster, .setThermal, .readThermal,
   .addCue, .cancelCue, .clearCues, .readCues, .setGuard, .writeFixtures, .deleteFixture, .beginScene, .sceneEntries,
   .deleteScene, .setLightMaster, .readFixtures, .readScene, .setLine, .readFollow, .clearEvents, .setNotice,
   .clearFaults, .readCounters]

/-- Table 12-11: the rows whose payload has one length, with that length. -/
def fixedLengths : List (Instr × Nat) :=
  [(.readIdentity, 0), (.readStatus, 0), (.setAddresses, 4), (.softReset, 1), (.tablesReset, 1), (.setInput, 9),
   (.setOutput, 1), (.readInput, 0), (.writeCurve, 67), (.setLookFields, 10), (.clearStaged, 0), (.copyActive, 0),
   (.checkLook, 0), (.readLook, 4), (.writeTileType, 15), (.setChain, 9), (.restartChain, 1), (.readRoster, 1),
   (.setMaster, 4), (.setThermal, 14), (.readThermal, 0), (.addCue, 45), (.cancelCue, 2), (.clearCues, 0),
   (.readCues, 2), (.setGuard, 1), (.deleteFixture, 1), (.beginScene, 3), (.deleteScene, 1), (.setLightMaster, 4),
   (.readFixtures, 2), (.readScene, 4), (.setLine, 4), (.readFollow, 2), (.clearEvents, 3), (.setNotice, 9),
   (.clearFaults, 0), (.readCounters, 3)]

/-- A row whose payload carries a count of entries: the place of the count byte, the bytes before the entries, and the
size of an entry. -/
structure CountedRow where
  row : Instr
  place : Nat
  head : Nat
  size : Nat
  deriving DecidableEq, Repr

/-- Table 12-11: the rows whose payload length follows from a count. -/
def countedLengths : List CountedRow :=
  [{ row := .writeTiles, place := 1, head := 2, size := 16 }, { row := .writeProfiles, place := 1, head := 2, size := 6 },
   { row := .writeRegions, place := 1, head := 2, size := 8 }, { row := .writeFixtures, place := 0, head := 1, size := 12 },
   { row := .sceneEntries, place := 1, head := 2, size := 10 }]

/-- Table 7-5, Table 10-4: the guarded rows. -/
def guardedRows : List Instr :=
  [.softReset, .tablesReset, .setInput, .setOutput, .writeTileType, .setChain, .restartChain, .clearCues,
   .writeFixtures, .deleteFixture, .setLine]

/-- R183: a payload has the length Table 12-11 gives a row. -/
def rightLength (i : Instr) (p : List Byte) : Prop :=
  (∀ n, (i, n) ∈ fixedLengths → p.length = n)
    ∧ ∀ x ∈ countedLengths, x.row = i → x.place < p.length ∧ p.length = x.head + x.size * u8 p x.place

/-! ## Laws of chapters 1 to 4 -/

/-- R7: the law on page roles, with the WRITE page there while an input frame is open, the READ page there from the
first one on, a size recorded in every page in use, and every page's content in its canonical form. -/
def PageLaw (s : State) : Prop :=
  roleCount .write s.store.pages = (if s.link.assembly = .open then 1 else 0)
    ∧ roleCount .latest s.store.pages ≤ 1
    ∧ roleCount .read s.store.pages = (if s.store.everRead then 1 else 0)
    ∧ ∀ i : Fin 3, s.store.pages[i].wf = true
      ∧ (s.store.pages[i].role ≠ .free → s.store.pages[i].size.isSome = true)

/-- R27: the ACTIVE bank passes the check, and so does the STAGED bank while the staged state is CHECKED. R40: a check
that runs has seen one output frame end at most. -/
def LookLaw (s : State) : Prop :=
  firstFailure s.looks.types s.looks.active = none
    ∧ (s.looks.staged = .checked → firstFailure s.looks.types s.looks.stagedLook = none)
    ∧ s.looks.checkEnds ≤ 1 ∧ (s.looks.staged ≠ .checking → s.looks.checkEnds = 0)

/-- R47–R52: one port's roster, collection and window against its state. R60: only a port in PROBE with its window
closed is newly enabled. -/
def PortLaw (p : ChainPort) : Prop :=
  p.roster.length ≤ 16 ∧ p.collection.length ≤ 16
    ∧ (p.state = .off → p.roster = [] ∧ p.stale = false)
    ∧ (p.state = .run → p.roster ≠ [] ∧ p.stale = false)
    ∧ (p.windowOpen = true → p.state = .probe ∨ p.state = .enumerate)
    ∧ (p.answered = true → p.state = .probe)
    ∧ (p.newlyEnabled = true → p.state = .probe ∧ p.windowOpen = false)

/-- R47–R52: the law of every chain port. -/
def ChainLaw (s : State) : Prop := ∀ c : Fin 8, PortLaw s.ports[c]

/-! ## Laws of chapters 5 and 6 -/

/-- R89, R93: a limiter scale stays within 0–4096 and is 0, with no measured mark, on a chain not in RUN; outside an
output frame every accumulator is 0. -/
def LimiterLaw (s : State) : Prop :=
  ∀ c : Fin 8, s.power.limiters[c].scale ≤ 4096
    ∧ (s.ports[c].state ≠ .run → s.power.limiters[c].scale = 0 ∧ s.power.limiters[c].measured = false)
    ∧ (s.timing.phase ≠ .active → s.power.limiters[c].acc = 0)

/-- R105, R106: a zone scale stays within 0–4096, is 0 in SHUTDOWN, and is 0 everywhere under GLOBAL response while
any zone is in SHUTDOWN; the derate scale is within 0–4096 (Table 6-1). -/
def ZoneLaw (s : State) : Prop :=
  s.thermal.config.derate ≤ 4096
    ∧ ∀ z : Fin 16, s.thermal.zones[z].scale ≤ 4096
      ∧ (s.thermal.zones[z].state = .shutdown → s.thermal.zones[z].scale = 0)
      ∧ (s.thermal.config.response = .global → anyShutdown s.thermal.zones = true → s.thermal.zones[z].scale = 0)

/-! ## Laws of chapter 7 -/

/-- R84, R142: a master and its ramp. -/
def RampLaw (value : Nat) (r : Ramp) : Prop :=
  value ≤ 4096 ∧ (r.active = true → r.start ≤ 4096 ∧ r.target ≤ 4096 ∧ (r.taken < r.total ∨ r.taken = 0))

/-- R114, R116, R117: one cue as it stands in the queue. -/
def CueOk (c : Cue) : Prop :=
  1 ≤ c.id ∧ c.id ≤ 65535 ∧ c.hasAction = true ∧ c.fades.length ≤ 4
    ∧ (∀ m, c.master = some m → m.target ≤ 4096) ∧ (∀ m, c.lightMaster = some m → m.target ≤ 4096)
    ∧ (∀ r, c.rep = some r → r.period ≠ 0 ∧ (r.count ≠ 0 → 1 ≤ r.remaining ∧ r.remaining ≤ r.count))

/-- R113: the law of the cue queue, with every cue as ADD_CUE admits it; and the two masters within 0–4096 (R84,
R142), which the cues' actions move. -/
def CueLaw (s : State) : Prop :=
  s.cues.queue.length ≤ 32 ∧ (s.cues.queue.map Cue.id).Nodup ∧ (∀ c ∈ s.cues.queue, CueOk c)
    ∧ RampLaw s.power.master s.power.ramp ∧ RampLaw s.lights.master s.lights.ramp

/-! ## Laws of chapters 8 and 9 -/

/-- Table 8-1, R130: a present fixture's fields in range, and its footprint on its line. -/
def FixtureOk (f : Fixture) : Prop :=
  f.line ≤ 3 ∧ 1 ≤ f.base ∧ f.base + f.kind.slots ≤ 321 ∧ f.gain ≤ 8192 ∧ 1 ≤ f.rate ∧ f.rate ≤ 256
    ∧ ∀ r, f.region = some r → r ≤ 15

/-- R131: the law of the fixture table, no line slot in two footprints; an absent fixture holds its power-on values
and its follow value is 0 (R130, R134, R149). -/
def FixtureLaw (s : State) : Prop :=
  anyConflict s.lights.fixtures = false
    ∧ ∀ x : Fin 96,
      (s.lights.fixtures[x].present = true → FixtureOk s.lights.fixtures[x])
        ∧ (s.lights.fixtures[x].present = false →
            s.lights.fixtures[x] = Fixture.powerOn ∧ s.follow.values[x] = Rgb.all 0)

/-- R135: an attribute's levels, and a running fade with a step to come. -/
def AttrOk (a : Attr) : Prop :=
  a.current ≤ 65535
    ∧ ∀ f, a.fade = some f → f.start ≤ 65535 ∧ f.target ≤ 65535 ∧ f.elapsed < f.total

/-- A triple of levels. -/
def RgbOk (c : Rgb) : Prop := c.r ≤ 65535 ∧ c.g ≤ 65535 ∧ c.b ≤ 65535

/-- R136: a scene entry's fixture and values. -/
def EntryOk (e : SceneEntry) : Prop :=
  e.fixture ≤ 95 ∧ (∀ v, e.i = some v → v ≤ 65535) ∧ (∀ v, e.r = some v → v ≤ 65535)
    ∧ (∀ v, e.g = some v → v ≤ 65535) ∧ (∀ v, e.b = some v → v ≤ 65535)

/-- R136–R138: one scene; a BUILDING scene still lacks an entry, and no fixture is named twice. -/
def SceneOk : Scene → Prop
  | .empty => True
  | .building expected held =>
    1 ≤ expected ∧ expected ≤ 512 ∧ held.length < expected ∧ (held.map SceneEntry.fixture).Nodup ∧ ∀ e ∈ held, EntryOk e
  | .ready held =>
    1 ≤ held.length ∧ held.length ≤ 512 ∧ (held.map SceneEntry.fixture).Nodup ∧ ∀ e ∈ held, EntryOk e

/-- R136: the law of the scene store, the pool's 2048 entries never overcommitted; and every level of the lights
within 0–65535 (R135, R149). -/
def LightLaw (s : State) : Prop :=
  poolUsed s.lights.scenes ≤ 2048 ∧ (∀ x : Fin 64, SceneOk s.lights.scenes[x])
    ∧ (∀ x : Fin 96, AttrOk s.lights.fixtures[x].i ∧ AttrOk s.lights.fixtures[x].r ∧ AttrOk s.lights.fixtures[x].g
        ∧ AttrOk s.lights.fixtures[x].b)
    ∧ ∀ x : Fin 96, RgbOk s.follow.values[x]

/-! ## Laws of chapters 10 and 11 -/

/-- R164, R165, R168, R169: the bounds of the queues; between commands no slot is reserved; the lane is idle only when
both queues are empty; and the executor is WAITING when the oldest command is direct and no slot is free. -/
def QueueLaw (s : State) : Prop :=
  s.intake.queue.length ≤ 8 ∧ s.ret.own.length ≤ 8 ∧ s.ret.reserved = 0 ∧ s.ret.pass.length ≤ 16
    ∧ (s.ret.sending = none → s.ret.own = [] ∧ s.ret.pass = [])
    ∧ (s.intake.executor = .waiting → s.intake.headDirect = true)
    ∧ (s.intake.headDirect = true → s.ret.free = 0 → s.intake.executor = .waiting)

/-- R179: one counter. -/
def CounterOk (c : Counter) : Prop := c.value ≤ 65535 ∧ (c.overflow = true ↔ c.value = 65535)

/-- R179: the law of the counters, for every counter of Table 11-3. -/
def CounterLaw (s : State) : Prop :=
  (∀ c ∈ inputCounters s, CounterOk c) ∧ (∀ c ∈ intakeCounters s, CounterOk c)
    ∧ ∀ x : Fin 8, ∀ c ∈ chainCounters s.ports[x], CounterOk c

/-- R175: the thresholds and counts in range; a notice is due when a threshold is reached; and the group flags are
clear exactly when nothing is pending. -/
def EventLaw (s : State) : Prop :=
  1 ≤ s.events.countThreshold ∧ s.events.countThreshold ≤ 16 ∧ 1 ≤ s.events.frameThreshold
    ∧ s.events.frameThreshold ≤ 255 ∧ s.events.pending ≤ 255 ∧ s.events.frames ≤ 255
    ∧ (s.events.reached = true → s.events.due = true)
    ∧ (s.events.groups = 0 ↔ s.events.pending = 0)

end Sys2Proof.Machine
end

