-- ==== Sys2Proof/WellFormed.lean ====
section
/-! DEFINITION. Which rows a sender can bring about: a packet is never empty (12: each begins with a type byte), and
UNKNOWN_FORWARD_PACKET carries a packet that is no marker, line or margin packet (R181). The meanings are total; an
ill-formed row has one too (log 27). -/

namespace Sys2Proof

/-- R181: a forward-lane packet that is passed on and otherwise ignored. -/
def unsorted (bytes : List Byte) : Bool :=
  !bytes.isEmpty && !Machine.isMarker bytes && !Machine.isLine bytes && !Machine.isMargin bytes

/-- Whether a row's operands are ones the part can be given. -/
def Instr.wellFormed : Instr → Bool
  | .unknownForwardPacket bytes => unsorted bytes
  | .identityArrival _ bytes => !bytes.isEmpty
  | .tileReportArrival _ bytes => !bytes.isEmpty
  | .passPacketArrival bytes => !bytes.isEmpty
  | .powerOnReset => true
  | .frameStartMarker .. => true
  | .linePacket .. => true
  | .marginPacket .. => true
  | .refPulse => true
  | .refLossTimeout => true
  | .outputFrameStart => true
  | .outputFrameEnd .. => true
  | .inputLoss => true
  | .tileSilent .. => true
  | .chainFailed .. => true
  | .holdoffExpiry .. => true
  | .zoneWarm .. => true
  | .zoneHot .. => true
  | .zoneShutdown .. => true
  | .zoneStepDown .. => true
  | .zoneShutdownExit .. => true
  | .noticeDue => true
  | .noticeQueued => true
  | .tallyRisingEdge => true
  | .tallyFallingEdge => true
  | .checkCompletion => true
  | .sendCompletion => true
  | .unknownCommand => true
  | .readIdentity => true
  | .readStatus => true
  | .setAddresses => true
  | .softReset => true
  | .tablesReset => true
  | .setInput => true
  | .setOutput => true
  | .readInput => true
  | .writeTiles => true
  | .writeProfiles => true
  | .writeCurve => true
  | .writeRegions => true
  | .setLookFields => true
  | .clearStaged => true
  | .copyActive => true
  | .checkLook => true
  | .readLook => true
  | .writeTileType => true
  | .setChain => true
  | .restartChain => true
  | .readRoster => true
  | .setMaster => true
  | .setThermal => true
  | .readThermal => true
  | .addCue => true
  | .cancelCue => true
  | .clearCues => true
  | .readCues => true
  | .setGuard => true
  | .writeFixtures => true
  | .deleteFixture => true
  | .beginScene => true
  | .sceneEntries => true
  | .deleteScene => true
  | .setLightMaster => true
  | .readFixtures => true
  | .readScene => true
  | .setLine => true
  | .readFollow => true
  | .clearEvents => true
  | .setNotice => true
  | .clearFaults => true
  | .readCounters => true

end Sys2Proof
end

