-- ==== Sys2Proof/Certificates/Slice0/Obligations.lean ====
section
/-! DEFINITION. The statements for the provers. Each docstring names the rules of spec/ it rests on. -/

section
open Sys2Proof Sys2Proof.Machine

/-! ## The queue of rows, reset -/

/-- A step runs the row at the front of the queue on the state with the queue's rest; with no row waiting the part
idles (the model's choice, log 5). -/
def Obligations.StepRunsFrontRow : Prop :=
  (∀ (c : Instr) (rest : List Instr) (s : State), step (s.setPending (c :: rest)) = exec c (s.setPending rest))
    ∧ ∀ s : State, s.pending = [] → step s = .next s

/-- Every row answers a next state, whatever its operands and the state, and leaves the rows waiting as they are. -/
def Obligations.EveryRowAnswersNext : Prop :=
  ∀ (c : Instr) (s : State), ∃ t, exec c s = .next t ∧ t.pending = s.pending

/-- The value of every piece of state of every block after power-on reset, whatever the pins: the link receiver, the
frame store and the timing generator (R1, R7, R8, R10, R11, R13, R18, R21); both banks at the default look of Table 2-4,
the staged state, the check record and the tile types (R26, R46); the whole frame latch (R61, R83); every port with
Table 3-2, its report store and its counters (R47); both masters with all five ramp fields and the limiters (R84, R89,
R142); Table 6-1 and every zone record (R97); the cue engine (Table 7-1); every fixture with Table 8-1, its attributes
and the scenes (R130, R135, R136); region records, follow values, lines and slot images (R159); addresses, intake and
return merger (R172); the event unit, and every counter with its overflow flag (R180). The model's own marks stand at
none with them: the frame phase (R14), a port's overlong and newly enabled marks (logs 21, 31), the frame ends of a
check (log 34) and the content of an empty page (log 22). -/
def Obligations.PowerOnValues : Prop :=
  ∀ pins : Pins,
    let s := State.powerOn pins
    let isDefault (l : Look) : Prop :=
      (∀ i : Fin 128, l.tiles[i] =
          { present := false, typeId := 0, x := 0, y := 0, orientation := .normal, profile := 0, curve := 0, zone := 0 })
        ∧ (∀ i : Fin 64, l.profiles[i] = { r := 32768, g := 32768, b := 32768 })
        ∧ (∀ i : Fin 8, ∀ k : Fin 33, l.curves[i][k] = if k.val = 32 then 65535 else 2048 * k.val)
        ∧ (∀ i : Fin 16, l.regions[i] = { x := 0, y := 0, width := 0, height := 0 })
        ∧ l.border = { r := 0, g := 0, b := 0 } ∧ l.label = 0
    let cleared : Counter := { value := 0, overflow := false }
    let noRamp : Ramp := { active := false, start := 0, target := 0, total := 0, taken := 0 }
    let still : Attr := { current := 0, fade := none }
    s.pins = pins ∧ s.link = { assembly := .idle, good := [], lineBad := cleared }
      ∧ (∀ i : Fin 3, s.store.pages[i] =
          { role := .free, size := none, seq := none, base := { r := 0, g := 0, b := 0 }, lines := [] })
      ∧ s.store =
        { pages := s.store.pages, everRead := false, repeats := 0, inputState := .none, lossActive := false
          missingLimit := 8, holdLimit := 5, lossAction := .hold, fill := { r := 0, g := 0, b := 0 }
          dropped := cleared, repeated := cleared, bad := cleared }
      ∧ s.timing =
        { ref := .unlocked, rate := pins.rateStrap, pendingRate := none, frame := 0, phase := .notBegun, held := false }
      ∧ (isDefault s.looks.active ∧ isDefault s.looks.stagedLook ∧ s.looks.staged = .checked
          ∧ s.looks.result = .none ∧ s.looks.checkEnds = 0 ∧ ∀ i : Fin 8, s.looks.types[i] = none)
      ∧ (s.comp.source = .none ∧ s.comp.raster = none ∧ s.comp.fill = { r := 0, g := 0, b := 0 } ∧ isDefault s.comp.look
          ∧ (∀ i : Fin 8, s.comp.types[i] = none) ∧ (∀ i : Fin 128, s.comp.status[i] = .empty) ∧ s.comp.master = 4096
          ∧ (∀ z : Fin 16, s.comp.zoneScale[z] = 4096 ∧ s.comp.composite[z] = 4096)
          ∧ ∀ c : Fin 8, s.comp.limiter[c] = 0)
      ∧ (∀ c : Fin 8,
          s.ports[c] =
              { state := .off, newlyEnabled := false
                config :=
                  { enable := false, recovery := .auto, holdoff := 25, silentLimit := 8, budget := 65535
                    releaseStep := 64 }
                roster := [], stale := false, reports := s.ports[c].reports, windowOpen := false, answered := false
                collection := [], overlong := false, holdoffCount := 0, linkErrors := cleared, enumFails := cleared
                silentEvents := cleared }
            ∧ ∀ i : Fin 16, s.ports[c].reports[i] = { last := none, since := 0, silent := false, fresh := false })
      ∧ (s.power.master = 4096 ∧ s.power.ramp = noRamp
          ∧ ∀ c : Fin 8, s.power.limiters[c] = { scale := 0, acc := 0, measured := false })
      ∧ (s.thermal.config =
            { warnLow := 65, warnHigh := 75, shutdown := 90, hysteresis := 5, deglitch := 3, derate := 2048
              recoveryStep := 128, response := .zone, recovery := .latched }
          ∧ ∀ z : Fin 16, s.thermal.zones[z] =
              { state := .normal, temp := none, members := 0, warm := 0, hot := 0, shut := 0, down := 0, scale := 4096 })
      ∧ s.cues = { queue := [], ended := none, lastFired := 0, lastSkipped := none, guard := false }
      ∧ ((∀ x : Fin 96, s.lights.fixtures[x] =
            { present := false, line := 0, base := 1, kind := .dim8, groups := 0, region := none, gain := 4096
              rate := 256, followOn := false, i := still, r := still, g := still, b := still })
          ∧ (∀ x : Fin 64, s.lights.scenes[x] = .empty) ∧ poolFree s.lights.scenes = 2048 ∧ s.lights.master = 4096
          ∧ s.lights.ramp = noRamp)
      ∧ ((∀ r : Fin 16, s.follow.running[r] = { sum := { r := 0, g := 0, b := 0 }, count := 0 }
            ∧ s.follow.published[r] = none)
          ∧ (∀ x : Fin 96, s.follow.values[x] = { r := 0, g := 0, b := 0 })
          ∧ ∀ l : Fin 4, s.follow.lines[l] = { enable := false, slots := 320 }
            ∧ ∀ k : Fin 320, s.follow.images[l][k] = 0)
      ∧ s.intake =
        { slot0 := 0x40 + pins.addrStrap.setWidth 8, slot1 := none, slot2 := none, slot3 := none, mask := 0xFF
          queue := [], executor := .idle, framing := cleared, check := cleared, misplaced := cleared
          intakeFull := cleared, repliesDropped := cleared }
      ∧ s.ret = { own := [], reserved := 0, pass := [], last := .pass, sending := none, drops := cleared }
      ∧ s.events =
        { flags := 0, groups := 0, enables := 0, countThreshold := 1, frameThreshold := 1, pending := 0, frames := 0
          due := false }

/-- POWER_ON_RESET gives every block its power-on values, which PowerOnValues spells out one by one, for the pins as
they stand; TALLY is not changed (R21, R46, R66, R83, R96, R112, R127, R129, R145, R159, R172, R180). The record of what
was sent on the links stays, and that of the frame in progress is emptied (the model's choice, log 15). -/
def Obligations.PowerOnResetSetsEveryBlock : Prop :=
  ∀ s : State, ∃ t, exec .powerOnReset s = .next t ∧ t.pins = s.pins
    ∧ (let r := State.powerOn s.pins
       t.link = r.link ∧ t.store = r.store ∧ t.timing = r.timing ∧ t.looks = r.looks ∧ t.comp = r.comp
         ∧ t.ports = r.ports ∧ t.power = r.power ∧ t.thermal = r.thermal ∧ t.cues = r.cues ∧ t.lights = r.lights
         ∧ t.follow = r.follow ∧ t.intake = r.intake ∧ t.ret = r.ret ∧ t.events = r.events)
    ∧ t.out.through = s.out.through ∧ t.out.upstream = s.out.upstream
    ∧ (∀ c : Fin 8, t.out.chains[c] = []) ∧ ∀ l : Fin 4, t.out.lights[l] = none

/-- Every law stated below holds of the state after reset. -/
def Obligations.LawsHoldAtReset : Prop :=
  PageLaw State.reset ∧ LookLaw State.reset ∧ ChainLaw State.reset ∧ LimiterLaw State.reset ∧ ZoneLaw State.reset
    ∧ CueLaw State.reset ∧ FixtureLaw State.reset ∧ LightLaw State.reset ∧ QueueLaw State.reset
    ∧ CounterLaw State.reset ∧ EventLaw State.reset

/-! ## The executor -/

/-- Every command has exactly one row; of the two rows of RESET_UNIT, TABLES_RESET takes kind 1 and SOFT_RESET every
other kind, the refused ones too (the model's choice, log 3). A command row leaves the state alone while no command waits
or the oldest one is not its own (the model's choice, log 2), and makes the executor WAITING while its command is direct
and no own-queue slot is free (R165). -/
def Obligations.CommandRowsTakeTheirOwn : Prop :=
  (∀ e : Entry, ∃ i ∈ commandRows, rowTakes i e = true ∧ ∀ j ∈ commandRows, rowTakes j e = true → j = i)
    ∧ ∀ i ∈ commandRows, ∀ s : State,
      (s.intake.queue = [] → exec i s = .next s)
        ∧ ∀ (e : Entry) (rest : List Entry), s.intake.queue = e :: rest →
          (rowTakes i e = false → exec i s = .next s)
            ∧ (rowTakes i e = true → e.kind = .direct → s.ret.free = 0 → exec i s = .next (s.setExecutor .waiting))

/-- The status byte holds the six bits of R177 and no other: ATTN for a set flag of an enabled group, FAULT, WARN,
STAGED_CHECKED, CHECKING and ON_AIR, in the places of Table 12-5. A direct command's reply fills its reserved slot with
the source address, the status byte, the code and the tag of R167, and starts to be sent at once on an idle lane; a group
or broadcast command has no reply (R165, R166, R167, R169). Apart from the return lane and the executor's look at the next
command, which makes it WAITING when that is direct and no slot is free (R165), answering changes nothing. -/
def Obligations.AnswerPlacesReply : Prop :=
  (∀ s : State,
    ((statusByte s).getLsbD 7 = true ↔ ∃ x : Source, s.events.has x = true ∧ s.events.enabled x.group = true)
      ∧ ((statusByte s).getLsbD 6 = true ↔
          (∃ c : Fin 8, s.ports[c].state = .failed) ∨ (∃ z : Fin 16, s.thermal.zones[z].state = .shutdown)
            ∨ s.store.lossActive = true)
      ∧ ((statusByte s).getLsbD 5 = true ↔
          (∃ z : Fin 16, s.thermal.zones[z].state = .warm ∨ s.thermal.zones[z].state = .hot)
            ∨ (∃ c : Fin 8, s.ports[c].state = .run ∧ ∃ i : Fin 16, s.ports[c].reports[i].silent = true)
            ∨ (∃ c : Fin 8, s.ports[c].state = .run ∧ s.power.limiters[c].scale < 4096) ∨ s.timing.ref = .lost)
      ∧ ((statusByte s).getLsbD 4 = true ↔ s.looks.staged = .checked)
      ∧ ((statusByte s).getLsbD 3 = true ↔ s.looks.staged = .checking)
      ∧ ((statusByte s).getLsbD 2 = true ↔ s.pins.tally = true)
      ∧ (statusByte s).getLsbD 1 = false ∧ (statusByte s).getLsbD 0 = false)
  ∧ ∀ (e : Entry) (t : Taken),
    (e.kind ≠ .direct → answer e t = lookIntake t.state)
      ∧ (e.kind = .direct →
          let reply := ReturnPacket.reply e.dest (statusByte t.state) e.code e.tag t.result t.data
          (answer e t).ret.reserved = t.state.ret.reserved - 1
            ∧ (t.state.ret.sending.isSome = true →
                (answer e t).ret.own = t.state.ret.own ++ [reply] ∧ (answer e t).ret.pass = t.state.ret.pass
                  ∧ (answer e t).ret.sending = t.state.ret.sending ∧ (answer e t).out = t.state.out)
            ∧ (t.state.ret.sending = none → t.state.ret.own = [] → t.state.ret.pass = [] →
                (answer e t).ret.own = [] ∧ (answer e t).ret.sending = some reply.bytes
                  ∧ (answer e t).ret.last = .own
                  ∧ (answer e t).out = { t.state.out with upstream := t.state.out.upstream ++ [reply.bytes] }))
      ∧ (answer e t).intake =
        { t.state.intake with
          executor :=
            if t.state.intake.headDirect = true ∧ (answer e t).ret.free = 0 then .waiting else t.state.intake.executor }
      ∧ (answer e t).ret.drops = t.state.ret.drops ∧ (answer e t).out.through = t.state.out.through
      ∧ (answer e t).out.chains = t.state.out.chains ∧ (answer e t).out.lights = t.state.out.lights
      ∧ (answer e t).looks = t.state.looks
      ∧ (answer e t).store = t.state.store ∧ (answer e t).timing = t.state.timing
      ∧ (answer e t).ports = t.state.ports ∧ (answer e t).power = t.state.power
      ∧ (answer e t).thermal = t.state.thermal ∧ (answer e t).cues = t.state.cues
      ∧ (answer e t).lights = t.state.lights ∧ (answer e t).follow = t.state.follow
      ∧ (answer e t).events = t.state.events ∧ (answer e t).comp = t.state.comp ∧ (answer e t).link = t.state.link
      ∧ (answer e t).pins = t.state.pins

/-- A code outside the catalogue is refused with BAD_COMMAND, a payload of another length than Table 12-11 gives with
BAD_LENGTH; a refused command changes nothing but the queues it passes through (R166, R183). -/
def Obligations.CodesAndLengthsAreChecked : Prop :=
  ∀ (s : State) (e : Entry) (rest : List Entry), Takes s e rest →
    (catalogue.contains e.code = false →
        exec .unknownCommand s = .next (answer e (refuse .badCommand (beginCommand e rest s))))
      ∧ (∀ x ∈ fixedLengths, rowTakes x.1 e = true → e.payload.length ≠ x.2 →
          exec x.1 s = .next (answer e (refuse .badLength (beginCommand e rest s))))
      ∧ ∀ x ∈ countedLengths, rowTakes x.row e = true →
          (e.payload.length ≤ x.place ∨ e.payload.length ≠ x.head + x.size * u8 e.payload x.place) →
          exec x.row s = .next (answer e (refuse .badLength (beginCommand e rest s)))

/-- A guarded command of the right length is refused with DENIED while the on-air guard is enabled and TALLY is high,
before any of its fields is judged, and changes nothing (R128, R166). -/
def Obligations.GuardedCommandsDenied : Prop :=
  ∀ (s : State) (e : Entry) (rest : List Entry) (i : Instr), Takes s e rest → i ∈ guardedRows → rowTakes i e = true →
    rightLength i e.payload → s.cues.guard = true → s.pins.tally = true →
    exec i s = .next (answer e (refuse .denied (beginCommand e rest s)))

/-! ## Reports -/

/-- READ_IDENTITY, READ_STATUS, READ_INPUT and READ_THERMAL report and change nothing (R20, R110, R170). -/
def Obligations.PlainReadsReport : Prop :=
  ∀ (s : State) (e : Entry) (rest : List Entry), Takes s e rest → e.payload = [] →
    let t := beginCommand e rest s
    (e.code = 0x01 →
        exec .readIdentity s =
          .next (answer e (report [0x48, 0x5A, 0x0D, 0x58, 0x02, s.pins.addrStrap.setWidth 8, s.pins.rateStrap.setWidth 8] t)))
      ∧ (e.code = 0x02 → exec .readStatus s = .next (answer e (report (statusData t) t)))
      ∧ (e.code = 0x12 → exec .readInput s = .next (answer e (report (inputData t) t)))
      ∧ (e.code = 0x49 → exec .readThermal s = .next (answer e (report (thermalData t.thermal) t)))

/-- READ_LOOK, READ_ROSTER, READ_CUES, READ_FIXTURES, READ_SCENE and READ_FOLLOW report what their fields name and
change nothing, and are refused with BAD_ARGUMENT when a field is out of range (R36, R64, R126, R144, R158). READ_LOOK's
range is Table 2-6: bank role 0 or 1 for the five tables of a bank and unexamined for TYPES; table code 0 to 5; first
index and count within the table for each indexed one, CURVES one at a time, and both unexamined for FIELDS. Its data is
the entries asked for, in index order, and for TYPES each with its in-use field (the bytes of an entry and the order of
the fields, DEDUCED, log 18). -/
def Obligations.RangedReadsReport : Prop :=
  ∀ (s : State) (e : Entry) (rest : List Entry), Takes s e rest →
    let t := beginCommand e rest s
    let p := e.payload
    let entries {α : Type} {n : Nat} (v : Vector α n) (most : Nat) (bytes : α → List Byte) : Option (List Byte) :=
      if 1 ≤ u8 p 3 ∧ u8 p 3 ≤ most ∧ u8 p 2 + u8 p 3 ≤ n then
        some (((v.toList.drop (u8 p 2)).take (u8 p 3)).flatMap bytes)
      else none
    let inUse (id : Nat) : Prop :=
      ∃ j : Fin 128,
        s.looks.active.tiles[j].present = true ∧ s.looks.active.tiles[j].typeId = id
          ∨ s.looks.stagedLook.tiles[j].present = true ∧ s.looks.stagedLook.tiles[j].typeId = id
    let types : Vector (List Byte) 8 :=
      Vector.ofFn fun i => tileTypeBytes i.val s.looks.types[i] ++ if inUse i.val then [1] else [0]
    let look : Option Look :=
      if u8 p 0 = 0 then some s.looks.active else if u8 p 0 = 1 then some s.looks.stagedLook else none
    let asked : Option (List Byte) :=
      if u8 p 1 = 5 then entries types 8 id
      else
        match look with
        | none => none
        | some l =>
          if u8 p 1 = 0 then entries l.tiles 63 TileEntry.bytes
          else if u8 p 1 = 1 then entries l.profiles 64 rgb2
          else if u8 p 1 = 2 then entries l.curves 1 fun c => c.toList.flatMap be2
          else if u8 p 1 = 3 then entries l.regions 16 Region.bytes
          else if u8 p 1 = 4 then some (rgb2 l.border ++ be4 l.label.toNat)
          else none
    (e.code = 0x28 → p.length = 4 →
        exec .readLook s = .next (answer e (match asked with | some d => report d t | none => refuse .badArgument t)))
      ∧ (e.code = 0x32 → p.length = 1 →
          exec .readRoster s =
            .next (answer e (if h : u8 p 0 < 8 then report (rosterData t ⟨u8 p 0, h⟩) t else refuse .badArgument t)))
      ∧ (e.code = 0x53 → p.length = 2 →
          exec .readCues s =
            .next (answer e (if 1 ≤ u8 p 1 ∧ u8 p 1 ≤ 8 ∧ u8 p 0 + u8 p 1 ≤ 32 then report (cuesData t (u8 p 0) (u8 p 1)) t
              else refuse .badArgument t)))
      ∧ (e.code = 0x66 → p.length = 2 →
          exec .readFixtures s =
            .next (answer e (if 1 ≤ u8 p 1 ∧ u8 p 1 ≤ 16 ∧ u8 p 0 + u8 p 1 ≤ 96 then
              report (fixturesData t.lights (u8 p 0) (u8 p 1)) t else refuse .badArgument t)))
      ∧ (e.code = 0x67 → p.length = 4 →
          exec .readScene s =
            .next (answer e (if h : u8 p 0 < 64 then
              if u16 p 1 ≤ 511 ∧ 1 ≤ u8 p 3 ∧ u8 p 3 ≤ 64 then
                report (sceneData t.lights.scenes ⟨u8 p 0, h⟩ (u16 p 1) (u8 p 3)) t
              else refuse .badArgument t
              else refuse .badArgument t)))
      ∧ (e.code = 0x71 → p.length = 2 →
          exec .readFollow s =
            .next (answer e (if 1 ≤ u8 p 1 ∧ u8 p 1 ≤ 16 ∧ u8 p 0 + u8 p 1 ≤ 96 then
              report (followData t (u8 p 0) (u8 p 1)) t else refuse .badArgument t)))

/-! ## Commands of the intake -/

/-- SET_ADDRESSES writes slots 1 to 3 and the mask together, 0x00 meaning unset; 0xFF for a slot is refused with
BAD_ARGUMENT (R163). -/
def Obligations.SetAddressesWritesSlots : Prop :=
  ∀ (s : State) (e : Entry) (rest : List Entry) (a b c m : Byte), Takes s e rest → e.code = 0x03 →
    e.payload = [a, b, c, m] →
    let t := beginCommand e rest s
    let slot (x : Byte) : Option Byte := if x = 0x00 then none else some x
    exec .setAddresses s =
      .next (answer e
        (if a = 0xFF ∨ b = 0xFF ∨ c = 0xFF then refuse .badArgument t
         else done { t with intake := { t.intake with slot1 := slot a, slot2 := slot b, slot3 := slot c, mask := m } }))

/-- A SOFT reset empties the intake and cue queues with their records, abandons a running check, freezes both ramps and
every fade, and clears flags, notice state and every counter with its overflow flag. Every other field of every block
stays as it is: pages, good lines and input settings, timing, latch, the ports with rosters, stale marks, reports,
windows and collections, limiters, zones, banks and tile types, guard and ended frame, fixtures, scenes, both masters,
the follow block, addresses and mask, group enables and thresholds, and the return merger (R21, R46, R66, R88, R96,
R112, R129, R145, R159, R171, R172, R180). A RESET_UNIT of a kind that is neither SOFT nor TABLES is refused with
BAD_ARGUMENT (R171), in the row SOFT_RESET (the model's choice, log 3). -/
def Obligations.SoftResetEffect : Prop :=
  ∀ (s : State) (e : Entry) (rest : List Entry), Takes s e rest → e.code = 0x04 → s.onAirGuard = false →
    let t := beginCommand e rest s
    (∀ kind : Byte, e.payload = [kind] → 2 ≤ kind.toNat →
        exec .softReset s = .next (answer e (refuse .badArgument t)))
    ∧ (e.payload = [0] →
      ∃ u, exec .softReset s = .next (answer e (done u))
        ∧ u.looks =
          { s.looks with
            staged := if s.looks.staged = .checking then .editing else s.looks.staged
            result := if s.looks.staged = .checking then .abandoned else s.looks.result
            checkEnds := if s.looks.staged = .checking then 0 else s.looks.checkEnds }
        ∧ u.lights = { s.lights with fixtures := u.lights.fixtures, ramp := { s.lights.ramp with active := false } }
        ∧ (∀ x : Fin 96, u.lights.fixtures[x] =
            let f := s.lights.fixtures[x]
            { f with i := { f.i with fade := none }, r := { f.r with fade := none }, g := { f.g with fade := none }
                     b := { f.b with fade := none } })
        ∧ u.intake =
          { s.intake with
            queue := [], executor := .idle, framing := Counter.zero, check := Counter.zero, misplaced := Counter.zero
            intakeFull := Counter.zero, repliesDropped := Counter.zero }
        ∧ u.ret = { t.ret with drops := Counter.zero }
        ∧ u.cues = { s.cues with queue := [], lastFired := 0, lastSkipped := none }
        ∧ u.power = { s.power with ramp := { s.power.ramp with active := false } }
        ∧ u.events = { s.events with flags := 0, groups := 0, pending := 0, frames := 0, due := false }
        ∧ ((∀ c ∈ inputCounters u ++ intakeCounters u, c = Counter.zero)
            ∧ ∀ x : Fin 8, u.ports[x] =
                { s.ports[x] with
                  linkErrors := Counter.zero, enumFails := Counter.zero, silentEvents := Counter.zero })
        ∧ u.link = { s.link with lineBad := Counter.zero }
        ∧ u.store = { s.store with dropped := Counter.zero, repeated := Counter.zero, bad := Counter.zero }
        ∧ u.timing = s.timing ∧ u.comp = s.comp ∧ u.thermal = s.thermal ∧ u.follow = s.follow ∧ u.out = s.out
        ∧ u.pins = s.pins)

/-- A TABLES reset does what SOFT does: it empties the intake and cue queues with their records, abandons a running check,
freezes both ramps, and clears flags, notice state and every counter. It also sets both banks to the default look, clears
the tile type table, deletes every fixture, empties every scene and sets every follow value to 0. It leaves pages, good
lines, input settings, timing, latch, chain states with rosters and reports, limiters, zones, addresses, guard, group
enables, thresholds, both masters, averages, light lines and the return merger (R21, R46, R66, R88, R96, R112, R129, R145,
R159, R171, R172, R180). -/
def Obligations.TablesResetEffect : Prop :=
  ∀ (s : State) (e : Entry) (rest : List Entry), Takes s e rest → e.code = 0x04 → e.payload = [1] →
    s.onAirGuard = false →
    let t := beginCommand e rest s
    ∃ u, exec .tablesReset s = .next (answer e (done u))
      ∧ (u.looks.active = Look.default ∧ u.looks.stagedLook = Look.default ∧ (∀ i : Fin 8, u.looks.types[i] = none)
          ∧ u.looks.staged = .checked ∧ u.looks.checkEnds = 0
          ∧ u.looks.result = (if s.looks.staged = .checking then .abandoned else .none))
      ∧ ((∀ x : Fin 96, u.lights.fixtures[x] = Fixture.powerOn ∧ u.follow.values[x] = Rgb.all 0)
          ∧ (∀ x : Fin 64, u.lights.scenes[x] = .empty) ∧ poolFree u.lights.scenes = 2048
          ∧ u.lights.master = s.lights.master ∧ u.lights.ramp = { s.lights.ramp with active := false })
      ∧ u.follow = { s.follow with values := u.follow.values }
      ∧ u.intake =
        { s.intake with
          queue := [], executor := .idle, framing := Counter.zero, check := Counter.zero, misplaced := Counter.zero
          intakeFull := Counter.zero, repliesDropped := Counter.zero }
      ∧ u.ret = { t.ret with drops := Counter.zero }
      ∧ u.cues = { s.cues with queue := [], lastFired := 0, lastSkipped := none }
      ∧ u.power = { s.power with ramp := { s.power.ramp with active := false } }
      ∧ u.events = { s.events with flags := 0, groups := 0, pending := 0, frames := 0, due := false }
      ∧ ((∀ c ∈ inputCounters u ++ intakeCounters u, c = Counter.zero)
          ∧ ∀ x : Fin 8, u.ports[x] =
              { s.ports[x] with
                linkErrors := Counter.zero, enumFails := Counter.zero, silentEvents := Counter.zero })
      ∧ u.link = { s.link with lineBad := Counter.zero }
      ∧ u.store = { s.store with dropped := Counter.zero, repeated := Counter.zero, bad := Counter.zero }
      ∧ u.timing = s.timing ∧ u.comp = s.comp ∧ u.thermal = s.thermal ∧ u.out = s.out ∧ u.pins = s.pins

/-! ## Commands of the frame store and the timing generator -/

/-- SET_INPUT writes its four fields together, SET_OUTPUT makes a rate code pending; a field out of range is refused
with BAD_ARGUMENT and nothing is written (R18, R19). -/
def Obligations.InputAndOutputSettings : Prop :=
  ∀ (s : State) (e : Entry) (rest : List Entry), Takes s e rest → s.onAirGuard = false →
    let t := beginCommand e rest s
    let p := e.payload
    (e.code = 0x10 → p.length = 9 →
        exec .setInput s =
          .next (answer e
            (if 1 ≤ u8 p 1 ∧ u8 p 2 ≤ 1 ∧ u16 p 3 ≤ 4095 ∧ u16 p 5 ≤ 4095 ∧ u16 p 7 ≤ 4095 then
              done { t with store := { t.store with
                missingLimit := u8 p 0, holdLimit := u8 p 1, lossAction := if u8 p 2 = 0 then .hold else .fill
                fill := { r := u16 p 3, g := u16 p 5, b := u16 p 7 } } }
             else refuse .badArgument t)))
      ∧ (e.code = 0x11 → p.length = 1 →
          exec .setOutput s =
            .next (answer e
              (if u8 p 0 ≤ 7 then
                done { t with timing := { t.timing with pendingRate := some (BitVec.ofNat 3 (u8 p 0)) } }
               else refuse .badArgument t)))

/-! ## Commands of the look store -/

/-- WRITE_TILES and WRITE_REGIONS write a run of the STAGED bank's table, entry by entry from the payload, in place of
what stood there; every other part of the bank, the ACTIVE bank and the rest of the state stay, and the staged state
becomes EDITING (R28, R29, R32). A count of 0 or above the maximum, a run past the table's end or an entry with a field
out of range is refused with BAD_ARGUMENT, and in CHECKING a write that passes these tests with BUSY. Bytes 10 to 15 of a
tile entry are not examined (read so from the manual, log 17). -/
def Obligations.TileAndRegionRunsWritten : Prop :=
  ∀ (s : State) (e : Entry) (rest : List Entry), Takes s e rest →
    let t := beginCommand e rest s
    let p := e.payload
    let tilesOk := 1 ≤ u8 p 1 ∧ u8 p 1 ≤ 63 ∧ u8 p 0 + u8 p 1 ≤ 128
      ∧ ∀ k < u8 p 1, (readTile (p.drop (2 + 16 * k))).isSome = true
    let regionsOk := 1 ≤ u8 p 1 ∧ u8 p 1 ≤ 16 ∧ u8 p 0 + u8 p 1 ≤ 16
      ∧ ∀ k < u8 p 1, (readRegion (p.drop (2 + 8 * k))).isSome = true
    (e.code = 0x20 → p.length = 2 + 16 * u8 p 1 →
        (¬ tilesOk → exec .writeTiles s = .next (answer e (refuse .badArgument t)))
          ∧ (tilesOk → s.looks.staged = .checking → exec .writeTiles s = .next (answer e (refuse .busy t))))
      ∧ (e.code = 0x23 → p.length = 2 + 8 * u8 p 1 →
        (¬ regionsOk → exec .writeRegions s = .next (answer e (refuse .badArgument t)))
          ∧ (regionsOk → s.looks.staged = .checking → exec .writeRegions s = .next (answer e (refuse .busy t))))
      ∧ (e.code = 0x20 → p.length = 2 + 16 * u8 p 1 → tilesOk → s.looks.staged ≠ .checking →
        ∃ u, exec .writeTiles s = .next (answer e (done u)) ∧ u = { t with looks := u.looks }
          ∧ u.looks.active = s.looks.active ∧ u.looks.types = s.looks.types ∧ u.looks.result = s.looks.result
          ∧ u.looks.checkEnds = s.looks.checkEnds
          ∧ u.looks.staged = .editing ∧ u.looks.stagedLook = { s.looks.stagedLook with tiles := u.looks.stagedLook.tiles }
          ∧ ∀ j : Fin 128,
            some u.looks.stagedLook.tiles[j] =
              if u8 p 0 ≤ j.val ∧ j.val < u8 p 0 + u8 p 1 then readTile (p.drop (2 + 16 * (j.val - u8 p 0)))
              else some s.looks.stagedLook.tiles[j])
      ∧ (e.code = 0x23 → p.length = 2 + 8 * u8 p 1 → regionsOk → s.looks.staged ≠ .checking →
          ∃ u, exec .writeRegions s = .next (answer e (done u)) ∧ u = { t with looks := u.looks }
            ∧ u.looks.active = s.looks.active ∧ u.looks.types = s.looks.types ∧ u.looks.result = s.looks.result
            ∧ u.looks.checkEnds = s.looks.checkEnds
            ∧ u.looks.staged = .editing
            ∧ u.looks.stagedLook = { s.looks.stagedLook with regions := u.looks.stagedLook.regions }
            ∧ ∀ j : Fin 16,
              some u.looks.stagedLook.regions[j] =
                if u8 p 0 ≤ j.val ∧ j.val < u8 p 0 + u8 p 1 then readRegion (p.drop (2 + 8 * (j.val - u8 p 0)))
                else some s.looks.stagedLook.regions[j])

/-- R30: WRITE_PROFILES writes its run of gain profiles of the STAGED bank, any gain value being in range; a count of
0 or above 64 or a run past profile 63 is refused with BAD_ARGUMENT; the staged state moves as R28 gives. -/
def Obligations.ProfileRunWritten : Prop :=
  ∀ (s : State) (e : Entry) (rest : List Entry), Takes s e rest → e.code = 0x21 →
    e.payload.length = 2 + 6 * u8 e.payload 1 →
    let t := beginCommand e rest s
    let p := e.payload
    (u8 p 1 = 0 ∨ 64 < u8 p 1 ∨ 64 < u8 p 0 + u8 p 1 →
        exec .writeProfiles s = .next (answer e (refuse .badArgument t)))
      ∧ (1 ≤ u8 p 1 → u8 p 1 ≤ 64 → u8 p 0 + u8 p 1 ≤ 64 →
          (s.looks.staged = .checking → exec .writeProfiles s = .next (answer e (refuse .busy t)))
            ∧ (s.looks.staged ≠ .checking →
                ∃ u, exec .writeProfiles s = .next (answer e (done u)) ∧ u = { t with looks := u.looks }
                  ∧ u.looks.active = s.looks.active ∧ u.looks.types = s.looks.types ∧ u.looks.result = s.looks.result
                  ∧ u.looks.checkEnds = s.looks.checkEnds
                  ∧ u.looks.staged = .editing
                  ∧ u.looks.stagedLook = { s.looks.stagedLook with profiles := u.looks.stagedLook.profiles }
                  ∧ ∀ j : Fin 64,
                    u.looks.stagedLook.profiles[j] =
                      if u8 p 0 ≤ j.val ∧ j.val < u8 p 0 + u8 p 1 then
                        { r := u16 p (2 + 6 * (j.val - u8 p 0)), g := u16 p (4 + 6 * (j.val - u8 p 0))
                          b := u16 p (6 + 6 * (j.val - u8 p 0)) }
                      else s.looks.stagedLook.profiles[j]))

/-- WRITE_CURVE writes all 33 points of one curve of the STAGED bank, in any order of heights; a curve number above 7
is refused with BAD_ARGUMENT, and in CHECKING the write with BUSY (R28, R31). -/
def Obligations.CurveWritten : Prop :=
  ∀ (s : State) (e : Entry) (rest : List Entry), Takes s e rest → e.code = 0x22 → e.payload.length = 67 →
    let t := beginCommand e rest s
    let p := e.payload
    (7 < u8 p 0 → exec .writeCurve s = .next (answer e (refuse .badArgument t)))
      ∧ (u8 p 0 ≤ 7 → s.looks.staged = .checking → exec .writeCurve s = .next (answer e (refuse .busy t)))
      ∧ (u8 p 0 ≤ 7 → s.looks.staged ≠ .checking →
          ∃ u, exec .writeCurve s = .next (answer e (done u)) ∧ u = { t with looks := u.looks }
            ∧ u.looks.active = s.looks.active ∧ u.looks.types = s.looks.types ∧ u.looks.result = s.looks.result
            ∧ u.looks.checkEnds = s.looks.checkEnds
            ∧ u.looks.staged = .editing
            ∧ u.looks.stagedLook = { s.looks.stagedLook with curves := u.looks.stagedLook.curves }
            ∧ ∀ j : Fin 8, ∀ k : Fin 33,
              u.looks.stagedLook.curves[j][k] =
                if j.val = u8 p 0 then u16 p (1 + 2 * k.val) else s.looks.stagedLook.curves[j][k])

/-- R33: SET_LOOK_FIELDS writes the border code and the label of the STAGED bank together, with R28's move of the
staged state; a channel above 4095 is refused with BAD_ARGUMENT, whatever the label. -/
def Obligations.LookFieldsWritten : Prop :=
  ∀ (s : State) (e : Entry) (rest : List Entry), Takes s e rest → e.code = 0x24 → e.payload.length = 10 →
    let t := beginCommand e rest s
    let p := e.payload
    (4095 < u16 p 0 ∨ 4095 < u16 p 2 ∨ 4095 < u16 p 4 →
        exec .setLookFields s = .next (answer e (refuse .badArgument t)))
      ∧ (u16 p 0 ≤ 4095 → u16 p 2 ≤ 4095 → u16 p 4 ≤ 4095 →
          (s.looks.staged = .checking → exec .setLookFields s = .next (answer e (refuse .busy t)))
            ∧ (s.looks.staged ≠ .checking →
                ∃ u, exec .setLookFields s = .next (answer e (done u)) ∧ u = { t with looks := u.looks }
                  ∧ u.looks.active = s.looks.active ∧ u.looks.types = s.looks.types ∧ u.looks.result = s.looks.result
                  ∧ u.looks.checkEnds = s.looks.checkEnds
                  ∧ u.looks.staged = .editing
                  ∧ u.looks.stagedLook =
                    { s.looks.stagedLook with
                      border := { r := u16 p 0, g := u16 p 2, b := u16 p 4 }
                      label := BitVec.ofNat 32 (u32 p 6) }))

/-- R34: CLEAR_STAGED writes the default look into the whole STAGED bank and makes the staged state EDITING; in
CHECKING it is refused with BUSY; the tile type table is not touched. -/
def Obligations.ClearStagedWritesDefaultLook : Prop :=
  ∀ (s : State) (e : Entry) (rest : List Entry), Takes s e rest → e.code = 0x25 → e.payload = [] →
    let t := beginCommand e rest s
    (s.looks.staged = .checking → exec .clearStaged s = .next (answer e (refuse .busy t)))
      ∧ (s.looks.staged ≠ .checking →
          ∃ u, exec .clearStaged s = .next (answer e (done u)) ∧ u = { t with looks := u.looks }
            ∧ u.looks.stagedLook = Look.default ∧ u.looks.staged = .editing ∧ u.looks.active = s.looks.active
            ∧ u.looks.types = s.looks.types ∧ u.looks.result = s.looks.result
            ∧ u.looks.checkEnds = s.looks.checkEnds)

/-- R35: COPY_ACTIVE copies the whole ACTIVE bank into the STAGED bank and makes the staged state CHECKED, leaving the
last check result and the ACTIVE bank; in CHECKING it is refused with BUSY. -/
def Obligations.CopyActiveCopiesBank : Prop :=
  ∀ (s : State) (e : Entry) (rest : List Entry), Takes s e rest → e.code = 0x26 → e.payload = [] →
    let t := beginCommand e rest s
    (s.looks.staged = .checking → exec .copyActive s = .next (answer e (refuse .busy t)))
      ∧ (s.looks.staged ≠ .checking →
          ∃ u, exec .copyActive s = .next (answer e (done u)) ∧ u = { t with looks := u.looks }
            ∧ u.looks.stagedLook = s.looks.active ∧ u.looks.active = s.looks.active ∧ u.looks.staged = .checked
            ∧ u.looks.types = s.looks.types ∧ u.looks.result = s.looks.result
            ∧ u.looks.checkEnds = s.looks.checkEnds)

/-- R38: CHECK_LOOK begins a check, from EDITING and from CHECKED alike, and replies ACCEPTED; in CHECKING it is refused
with BUSY and the check goes on. -/
def Obligations.CheckLookStartsCheck : Prop :=
  ∀ (s : State) (e : Entry) (rest : List Entry), Takes s e rest → e.code = 0x27 → e.payload = [] →
    let t := beginCommand e rest s
    (s.looks.staged = .checking → exec .checkLook s = .next (answer e (refuse .busy t)))
      ∧ (s.looks.staged ≠ .checking →
          exec .checkLook s =
            .next (answer e
              { state := { t with looks := { t.looks with staged := .checking, checkEnds := 0 } }
                result := .accepted, data := [] }))

/-- WRITE_TILE_TYPE writes one entry, defined or undefined, unless a present entry of either bank names it, which is
refused with IN_USE; a field out of range is refused with BAD_ARGUMENT first (R25, R37). -/
def Obligations.TileTypeWritten : Prop :=
  ∀ (s : State) (e : Entry) (rest : List Entry), Takes s e rest → e.code = 0x29 → e.payload.length = 15 →
    s.onAirGuard = false →
    let t := beginCommand e rest s
    let p := e.payload
    let named := (∃ j : Fin 128, s.looks.bank0.tiles[j].present = true ∧ s.looks.bank0.tiles[j].typeId = u8 p 0)
      ∨ ∃ j : Fin 128, s.looks.bank1.tiles[j].present = true ∧ s.looks.bank1.tiles[j].typeId = u8 p 0
    (7 < u8 p 0 ∨ readTileType p = none → exec .writeTileType s = .next (answer e (refuse .badArgument t)))
      ∧ ∀ entry, u8 p 0 ≤ 7 → readTileType p = some entry →
        (named → exec .writeTileType s = .next (answer e (refuse .inUse t)))
          ∧ (¬ named →
              ∃ u, exec .writeTileType s = .next (answer e (done u)) ∧ u = { t with looks := u.looks }
                ∧ u.looks = { s.looks with types := u.looks.types }
                ∧ ∀ j : Fin 8, u.looks.types[j] = if j.val = u8 p 0 then entry else s.looks.types[j])

/-- A check completion records the first failure, an undefined type before a decreasing curve and each in increasing
order, with staged state EDITING, or PASSED with staged state CHECKED, and raises CHECK_DONE; with no check running
nothing changes (R28, R39, R40). A completion comes no later than the second output frame end after its CHECK_LOOK: a
check that runs on at the first is counted there, and one that still runs at the second completes together with it (R40),
a swap of that frame end having been skipped (R44; the place among the blocks' work is the model's choice, log 34). -/
def Obligations.CheckCompletionRecords : Prop :=
  ∀ s : State,
    let look := s.looks.stagedLook
    let bad (j : Fin 128) : Prop :=
      look.tiles[j].present = true ∧ (look.tiles[j].typeId ≥ 8 ∨ ∃ k : Fin 8, k.val = look.tiles[j].typeId ∧ s.looks.types[k] = none)
    let falls (c : Fin 8) : Prop := ∃ k : Fin 32, look.curves[c][k.val + 1] < look.curves[c][k.val]
    (s.looks.staged ≠ .checking → exec .checkCompletion s = .next s)
      ∧ (s.looks.staged = .checking →
          ∃ t, exec .checkCompletion s = .next t ∧ t.events.has .checkDone = true
            ∧ t.looks = { s.looks with staged := t.looks.staged, result := t.looks.result, checkEnds := 0 }
            ∧ t.store = s.store ∧ t.comp = s.comp ∧ t.ports = s.ports ∧ t.cues = s.cues ∧ t.lights = s.lights
            ∧ ((∀ j, ¬ bad j) → (∀ c, ¬ falls c) → t.looks.staged = .checked ∧ t.looks.result = .passed)
            ∧ (∀ j, bad j → (∀ i < j, ¬ bad i) →
                t.looks.staged = .editing ∧ t.looks.result = .failed (.undefinedType j.val))
            ∧ ((∀ j, ¬ bad j) → ∀ c, falls c → (∀ d < c, ¬ falls d) →
                t.looks.staged = .editing ∧ t.looks.result = .failed (.decreasing c.val)))
      ∧ ∀ order : FrameEndOrder, s.timing.phase = .active → s.looks.staged = .checking →
          ∃ t u, exec (.outputFrameEnd order) s = .next t ∧ exec .checkCompletion s = .next u
            ∧ (s.looks.checkEnds = 0 → t.looks = { s.looks with checkEnds := 1 })
            ∧ (s.looks.checkEnds ≠ 0 → t.looks = u.looks ∧ t.events.has .checkDone = true)

/-! ## Commands of the chain ports, the power block and the thermal block -/

/-- SET_CHAIN writes one port's configuration. Enable yes takes an OFF port to PROBE with its window closed, marks it
newly enabled (Table 3-4, R60; the mark is the model's, log 31) and leaves the rest of any port; enable no leaves the
rest of an OFF port, and takes any other port to OFF with roster, stale mark, reports, silent and fresh marks,
collection, window, answered mark and holdoff count cleared, and its counters kept (R48, R49). RESTART_CHAIN takes any
port but an OFF one to PROBE at once with its roster kept and marked stale when it holds a record, silent and fresh
marks, collection, window, answered mark and holdoff count cleared, and last reports and counts kept (R58). A chain that
leaves RUN so has limiter scale 0 and no measured mark (R93), and within a frame it keeps the lines whole within the
pixels it has sent, and in its accumulator the demand of just these pixels (R76, R82; how many they are is open, log
13). A port not in RUN leaves power and output alone, and nothing else changes. A chain number above 7 is refused with
BAD_ARGUMENT by both. That the report counts stay at enable no and that an empty roster is not marked stale at a restart
is the model's reading (DEDUCED, log 20), and so is the overlong mark (log 21). -/
def Obligations.ChainCommands : Prop :=
  (∀ (s : State) (e : Entry) (rest : List Entry), Takes s e rest → s.onAirGuard = false → 7 < u8 e.payload 0 →
    (e.code = 0x30 → e.payload.length = 9 →
        exec .setChain s = .next (answer e (refuse .badArgument (beginCommand e rest s))))
      ∧ (e.code = 0x31 → e.payload.length = 1 →
        exec .restartChain s = .next (answer e (refuse .badArgument (beginCommand e rest s)))))
  ∧ ∀ (s : State) (e : Entry) (rest : List Entry) (c : Fin 8), Takes s e rest → s.onAirGuard = false →
    u8 e.payload 0 = c.val →
    let t := beginCommand e rest s
    let p := e.payload
    let old := s.ports[c]
    let demands := lineDemands s.comp s.store.pages c old.roster
    let cutShort (u : State) : Prop :=
      (s.timing.phase = .active →
          ∃ n k : Nat, u.out.chains[c] = s.out.chains[c].take k
            ∧ u.power.limiters[c].acc = (demands.flatten.take n).sum
            ∧ k ≤ demands.length ∧ (demands.take k).flatten.length ≤ n
            ∧ ∀ j, j ≤ demands.length → (demands.take j).flatten.length ≤ n → j ≤ k)
        ∧ (s.timing.phase ≠ .active →
          u.out.chains[c] = s.out.chains[c] ∧ u.power.limiters[c].acc = s.power.limiters[c].acc)
    let leftRun (u : State) : Prop :=
      u.power.limiters[c].scale = 0 ∧ u.power.limiters[c].measured = false ∧ cutShort u
        ∧ u.power = { s.power with limiters := u.power.limiters } ∧ u.out = { s.out with chains := u.out.chains }
        ∧ ∀ d : Fin 8, d ≠ c → u.out.chains[d] = s.out.chains[d]
    let framed (u : State) : Prop :=
      u = { t with ports := u.ports, power := u.power, out := u.out, freeIndex := u.freeIndex }
        ∧ ∀ d : Fin 8, d ≠ c → u.ports[d] = s.ports[d] ∧ u.power.limiters[d] = s.power.limiters[d]
    (e.code = 0x30 → p.length = 9 →
        let cfg : ChainConfig :=
          { enable := u8 p 1 == 1, recovery := if u8 p 2 = 0 then .auto else .latched, holdoff := u8 p 3
            silentLimit := u8 p 4, budget := u16 p 5, releaseStep := u16 p 7 }
        (1 < u8 p 1 ∨ 1 < u8 p 2 ∨ u8 p 3 = 0 ∨ u8 p 4 = 0 ∨ u16 p 7 = 0 ∨ 4096 < u16 p 7 →
            exec .setChain s = .next (answer e (refuse .badArgument t)))
          ∧ (u8 p 1 ≤ 1 → u8 p 2 ≤ 1 → 1 ≤ u8 p 3 → 1 ≤ u8 p 4 → 1 ≤ u16 p 7 → u16 p 7 ≤ 4096 →
              ∃ u, exec .setChain s = .next (answer e (done u)) ∧ framed u
                ∧ (u8 p 1 = 1 → old.state = .off →
                    u.ports[c] = { old with config := cfg, state := .probe, newlyEnabled := true, windowOpen := false })
                ∧ (u8 p 1 = 1 → old.state ≠ .off → u.ports[c] = { old with config := cfg })
                ∧ (u8 p 1 = 0 → old.state = .off → u.ports[c] = { old with config := cfg })
                ∧ (u8 p 1 = 0 → old.state ≠ .off →
                    u.ports[c] =
                        { old with
                          config := cfg, state := .off, roster := [], stale := false, reports := u.ports[c].reports
                          newlyEnabled := false, windowOpen := false, answered := false, collection := []
                          overlong := false, holdoffCount := 0 }
                      ∧ ∀ i : Fin 16, u.ports[c].reports[i] =
                          { last := none, since := old.reports[i].since, silent := false, fresh := false })
                ∧ (u8 p 1 = 0 → old.state = .run → leftRun u)
                ∧ (u8 p 1 = 1 ∨ old.state ≠ .run → u.power = s.power ∧ u.out = s.out)))
      ∧ (e.code = 0x31 → p.length = 1 →
          (old.state = .off → exec .restartChain s = .next (answer e (refuse .notReady t)))
            ∧ (old.state ≠ .off →
                ∃ u, exec .restartChain s = .next (answer e (done u)) ∧ framed u
                  ∧ u.ports[c] =
                    { old with
                      state := .probe, stale := !old.roster.isEmpty, reports := u.ports[c].reports
                      newlyEnabled := false, windowOpen := false, answered := false, collection := []
                      overlong := false, holdoffCount := 0 }
                  ∧ (∀ i : Fin 16, u.ports[c].reports[i] = { old.reports[i] with silent := false, fresh := false })
                  ∧ (old.state = .run → leftRun u) ∧ (old.state ≠ .run → u.power = s.power ∧ u.out = s.out)))

/-- SET_THERMAL writes the whole configuration; with GLOBAL response while a zone is in SHUTDOWN every zone scale
becomes 0 at once; fields out of range, or thresholds not in rising order, are refused with BAD_ARGUMENT (R108, R109). -/
def Obligations.SetThermalWritesConfiguration : Prop :=
  ∀ (s : State) (e : Entry) (rest : List Entry), Takes s e rest → e.code = 0x48 → e.payload.length = 14 →
    let t := beginCommand e rest s
    let p := e.payload
    let inRange := -40 ≤ s16 p 0 ∧ s16 p 0 < s16 p 2 ∧ s16 p 2 < s16 p 4 ∧ s16 p 4 ≤ 150 ∧ u8 p 6 ≤ 63 ∧ 1 ≤ u8 p 7
      ∧ u16 p 8 ≤ 4096 ∧ 1 ≤ u16 p 10 ∧ u16 p 10 ≤ 4096 ∧ u8 p 12 ≤ 1 ∧ u8 p 13 ≤ 1
    (¬ inRange → exec .setThermal s = .next (answer e (refuse .badArgument t)))
      ∧ (inRange →
          ∃ u, exec .setThermal s = .next (answer e (done u)) ∧ u = { t with thermal := u.thermal }
            ∧ u.thermal.config =
              { warnLow := s16 p 0, warnHigh := s16 p 2, shutdown := s16 p 4, hysteresis := u8 p 6, deglitch := u8 p 7
                derate := u16 p 8, recoveryStep := u16 p 10, response := if u8 p 12 = 0 then .zone else .global
                recovery := if u8 p 13 = 0 then .auto else .latched }
            ∧ ∀ z : Fin 16,
              u.thermal.zones[z] =
                if u8 p 12 = 1 ∧ ∃ y : Fin 16, s.thermal.zones[y].state = .shutdown then
                  { s.thermal.zones[z] with scale := 0 }
                else s.thermal.zones[z])

/-! ## Commands of the cue engine -/

/-- ADD_CUE appends a cue in range at the queue's end: an AT_FRAME cue whose frame end has been taken goes in as NEXT,
with OK_LATE and CUE_LATE, any other as it is, with OK; a full queue refuses with FULL, then a repeated id with
DUPLICATE; a trigger frame too far ahead, or a record out of range, with BAD_ARGUMENT (R115, R117, R118, R119). -/
def Obligations.AddCuePlacesCue : Prop :=
  ∀ (s : State) (e : Entry) (rest : List Entry), Takes s e rest → e.code = 0x50 → e.payload.length = 45 →
    let t := beginCommand e rest s
    (readCue e.payload = none → exec .addCue s = .next (answer e (refuse .badArgument t)))
      ∧ ∀ c, readCue e.payload = some c →
        let tooFar := ∃ n, c.trigger = .atFrame n ∧ (s.timing.frame - n).toNat ≥ 2 ^ 31
          ∧ (n - s.timing.frame).toNat > 16777216
        let late := ∃ n m, c.trigger = .atFrame n ∧ s.cues.ended = some m ∧ (m + 1 - n).toNat < 2 ^ 31
        (tooFar → exec .addCue s = .next (answer e (refuse .badArgument t)))
          ∧ (¬ tooFar → 32 ≤ s.cues.queue.length → exec .addCue s = .next (answer e (refuse .full t)))
          ∧ (¬ tooFar → s.cues.queue.length < 32 → (∃ d ∈ s.cues.queue, d.id = c.id) →
              exec .addCue s = .next (answer e (refuse .duplicate t)))
          ∧ (¬ tooFar → s.cues.queue.length < 32 → (∀ d ∈ s.cues.queue, d.id ≠ c.id) → ¬ late →
              exec .addCue s =
                .next (answer e (done { t with cues := { t.cues with queue := s.cues.queue ++ [c] } })))
          ∧ (¬ tooFar → s.cues.queue.length < 32 → (∀ d ∈ s.cues.queue, d.id ≠ c.id) → late →
              ∃ u, exec .addCue s = .next (answer e { state := u, result := .okLate, data := [] })
                ∧ u.cues = { s.cues with queue := s.cues.queue ++ [{ c with trigger := .next }] }
                ∧ u.events.has .cueLate = true ∧ u.looks = s.looks ∧ u.power = s.power ∧ u.lights = s.lights
                ∧ u.timing = s.timing)

/-- CANCEL_CUE removes the cue with its id, the others keeping their order, or answers NOT_FOUND; id 0 is refused with
BAD_ARGUMENT (R124). CLEAR_CUES removes every cue and reports how many there were, leaving the last fired id and the
last skipped record (R125). -/
def Obligations.CuesRemoved : Prop :=
  ∀ (s : State) (e : Entry) (rest : List Entry), Takes s e rest →
    let t := beginCommand e rest s
    let p := e.payload
    (e.code = 0x51 → p.length = 2 →
        exec .cancelCue s =
          .next (answer e
            (if u16 p 0 = 0 then refuse .badArgument t
             else if u16 p 0 ∈ s.cues.queue.map Cue.id then
               done { t with cues := { t.cues with queue := s.cues.queue.filter fun c => c.id != u16 p 0 } }
             else refuse .notFound t)))
      ∧ (e.code = 0x52 → p = [] → s.onAirGuard = false →
          exec .clearCues s =
            .next (answer e (report [BitVec.ofNat 8 s.cues.queue.length] { t with cues := { t.cues with queue := [] } })))

/-- SET_MASTER and SET_LIGHT_MASTER begin a ramp from the value the master has now, which does not move before the next
frame start, and refuse a target above 4096 (R84, R85, R142). SET_GUARD writes the guard enable (R128). None of the three
is guarded. SET_LINE writes one line's enable and slot count (R156). A code that names neither yes nor no, a line above 3,
or a slot count outside 1–320 is refused with BAD_ARGUMENT. -/
def Obligations.MasterGuardAndLineSettings : Prop :=
  ∀ (s : State) (e : Entry) (rest : List Entry), Takes s e rest →
    let t := beginCommand e rest s
    let p := e.payload
    let begun (value : Nat) : Ramp := { active := true, start := value, target := u16 p 0, total := u16 p 2, taken := 0 }
    (e.code = 0x40 → p.length = 4 →
        exec .setMaster s =
          .next (answer e (if u16 p 0 ≤ 4096 then done { t with power := { t.power with ramp := begun s.power.master } }
            else refuse .badArgument t)))
      ∧ (e.code = 0x65 → p.length = 4 →
          exec .setLightMaster s =
            .next (answer e
              (if u16 p 0 ≤ 4096 then done { t with lights := { t.lights with ramp := begun s.lights.master } }
               else refuse .badArgument t)))
      ∧ (e.code = 0x54 → p.length = 1 →
          exec .setGuard s =
            .next (answer e (if u8 p 0 ≤ 1 then done { t with cues := { t.cues with guard := u8 p 0 == 1 } }
              else refuse .badArgument t)))
      ∧ (e.code = 0x70 → p.length = 4 → s.onAirGuard = false →
          (3 < u8 p 0 ∨ 1 < u8 p 1 ∨ u16 p 2 = 0 ∨ 320 < u16 p 2 →
              exec .setLine s = .next (answer e (refuse .badArgument t)))
            ∧ (u8 p 0 ≤ 3 → u8 p 1 ≤ 1 → 1 ≤ u16 p 2 → u16 p 2 ≤ 320 →
                ∃ u, exec .setLine s = .next (answer e (done u))
                  ∧ u = { t with follow := { t.follow with lines := u.follow.lines } }
                  ∧ ∀ l : Fin 4,
                    u.follow.lines[l] =
                      if l.val = u8 p 0 then { enable := u8 p 1 == 1, slots := u16 p 2 } else s.follow.lines[l]))

/-! ## Commands of the lighting block -/

/-- WRITE_FIXTURES writes every record of a list that names no fixture twice and leaves no line slot in two footprints,
and is refused with DUPLICATE, then CONFLICT, otherwise; a count of 0 or above 16, or a record with a field out of range,
is refused with BAD_ARGUMENT before that. A present fixture keeps its attributes, fades and follow-on
flag; an absent one starts with them at their power-on values and its follow value at 0 (R131, R132, R133, R149).
DELETE_FIXTURE gives a present fixture its power-on record and follow value 0, and answers NOT_FOUND for an absent one
(R134, R149). -/
def Obligations.FixturesWrittenAndDeleted : Prop :=
  ∀ (s : State) (e : Entry) (rest : List Entry), Takes s e rest → s.onAirGuard = false →
    let t := beginCommand e rest s
    let p := e.payload
    (e.code = 0x60 → 0 < p.length → p.length = 1 + 12 * u8 p 0 →
        u8 p 0 = 0 ∨ 16 < u8 p 0 ∨ (∃ k < u8 p 0, readFixture (p.drop (1 + 12 * k)) = none) →
        exec .writeFixtures s = .next (answer e (refuse .badArgument t)))
      ∧ (e.code = 0x60 → 0 < p.length → p.length = 1 + 12 * u8 p 0 → 1 ≤ u8 p 0 → u8 p 0 ≤ 16 →
        ∀ records, readRecords readFixture 12 (u8 p 0) (p.drop 1) = some records →
          let after := writtenTable s.lights.fixtures records
          (¬ (records.map Prod.fst).Nodup → exec .writeFixtures s = .next (answer e (refuse .duplicate t)))
            ∧ ((records.map Prod.fst).Nodup → (∃ i j : Fin 96, i < j ∧ footprintsMeet after[i] after[j] = true) →
                exec .writeFixtures s = .next (answer e (refuse .conflict t)))
            ∧ ((records.map Prod.fst).Nodup → (∀ i j : Fin 96, i < j → footprintsMeet after[i] after[j] = false) →
                ∃ u, exec .writeFixtures s = .next (answer e (done u))
                  ∧ u = { t with lights := { t.lights with fixtures := u.lights.fixtures }
                                 follow := { t.follow with values := u.follow.values } }
                  ∧ (∀ x : Fin 96, x ∉ records.map Prod.fst →
                      u.lights.fixtures[x] = s.lights.fixtures[x] ∧ u.follow.values[x] = s.follow.values[x])
                  ∧ (∀ r ∈ records, s.lights.fixtures[r.1].present = false →
                      u.lights.fixtures[r.1] = r.2 ∧ u.follow.values[r.1] = Rgb.all 0)
                  ∧ ∀ r ∈ records, s.lights.fixtures[r.1].present = true →
                      u.follow.values[r.1] = s.follow.values[r.1]
                        ∧ u.lights.fixtures[r.1] =
                          { r.2 with
                            followOn := s.lights.fixtures[r.1].followOn, i := s.lights.fixtures[r.1].i
                            r := s.lights.fixtures[r.1].r, g := s.lights.fixtures[r.1].g
                            b := s.lights.fixtures[r.1].b }))
      ∧ (e.code = 0x61 → p.length = 1 →
          (95 < u8 p 0 → exec .deleteFixture s = .next (answer e (refuse .badArgument t)))
            ∧ ∀ x : Fin 96, u8 p 0 = x.val →
              (s.lights.fixtures[x].present = false → exec .deleteFixture s = .next (answer e (refuse .notFound t)))
                ∧ (s.lights.fixtures[x].present = true →
                    ∃ u, exec .deleteFixture s = .next (answer e (done u))
                      ∧ u = { t with lights := { t.lights with fixtures := u.lights.fixtures }
                                     follow := { t.follow with values := u.follow.values } }
                      ∧ ∀ y : Fin 96,
                        u.lights.fixtures[y] = (if y = x then Fixture.powerOn else s.lights.fixtures[y])
                          ∧ u.follow.values[y] = (if y = x then Rgb.all 0 else s.follow.values[y])))

/-- BEGIN_SCENE frees what a scene holds and reserves its new count, replying the free count; a BUILDING scene refuses
with NOT_READY, too large a count with FULL (R136, R137). DELETE_SCENE makes a scene EMPTY in every state (R139). A scene
number above 63 is refused with BAD_ARGUMENT by both. -/
def Obligations.ScenesBegunAndDeleted : Prop :=
  (∀ (s : State) (e : Entry) (rest : List Entry), Takes s e rest → 63 < u8 e.payload 0 →
    (e.code = 0x62 → e.payload.length = 3 →
        exec .beginScene s = .next (answer e (refuse .badArgument (beginCommand e rest s))))
      ∧ (e.code = 0x64 → e.payload.length = 1 →
        exec .deleteScene s = .next (answer e (refuse .badArgument (beginCommand e rest s)))))
  ∧ ∀ (s : State) (e : Entry) (rest : List Entry) (x : Fin 64), Takes s e rest → u8 e.payload 0 = x.val →
    let t := beginCommand e rest s
    let p := e.payload
    let freed := 2048 - poolUsed (s.lights.scenes.set x .empty)
    (e.code = 0x62 → p.length = 3 → poolUsed s.lights.scenes ≤ 2048 →
        (u16 p 1 = 0 ∨ 512 < u16 p 1 → exec .beginScene s = .next (answer e (refuse .badArgument t)))
          ∧ (1 ≤ u16 p 1 → u16 p 1 ≤ 512 → (∃ n held, s.lights.scenes[x] = .building n held) →
              exec .beginScene s = .next (answer e (refuse .notReady t)))
          ∧ (1 ≤ u16 p 1 → u16 p 1 ≤ 512 → (∀ n held, s.lights.scenes[x] ≠ .building n held) →
              exec .beginScene s =
                .next (answer e
                  (if u16 p 1 ≤ freed then
                    report [BitVec.ofNat 8 ((freed - u16 p 1) / 256), BitVec.ofNat 8 (freed - u16 p 1)]
                      { t with lights := { t.lights with scenes := s.lights.scenes.set x (.building (u16 p 1) []) } }
                   else refuse .full t))))
      ∧ (e.code = 0x64 → p.length = 1 →
          exec .deleteScene s =
            .next (answer e (done { t with lights := { t.lights with scenes := s.lights.scenes.set x .empty } })))

/-- SCENE_ENTRIES appends its entries to a BUILDING scene and makes it READY with the last expected one, raising
SCENE_READY; it replies the number received and the scene state. A scene that is not BUILDING refuses with NOT_READY,
more entries than remain with BAD_ARGUMENT, a fixture named twice with DUPLICATE. A scene number above 63, a count of 0 or
above 64, or an entry with a field out of range is refused with BAD_ARGUMENT before that (R138). -/
def Obligations.SceneEntriesAppended : Prop :=
  (∀ (s : State) (e : Entry) (rest : List Entry), Takes s e rest → e.code = 0x63 →
    e.payload.length = 2 + 10 * u8 e.payload 1 →
    63 < u8 e.payload 0 ∨ u8 e.payload 1 = 0 ∨ 64 < u8 e.payload 1
      ∨ (∃ k < u8 e.payload 1, readSceneEntry (e.payload.drop (2 + 10 * k)) = none) →
    exec .sceneEntries s = .next (answer e (refuse .badArgument (beginCommand e rest s))))
  ∧ ∀ (s : State) (e : Entry) (rest : List Entry) (x : Fin 64) (entries : List SceneEntry), Takes s e rest →
    e.code = 0x63 → e.payload.length = 2 + 10 * u8 e.payload 1 → u8 e.payload 0 = x.val → 1 ≤ u8 e.payload 1 →
    u8 e.payload 1 ≤ 64 → readRecords readSceneEntry 10 (u8 e.payload 1) (e.payload.drop 2) = some entries →
    let t := beginCommand e rest s
    ((∀ n held, s.lights.scenes[x] ≠ .building n held) → exec .sceneEntries s = .next (answer e (refuse .notReady t)))
      ∧ ∀ n held, s.lights.scenes[x] = .building n held →
        (n - held.length < entries.length → exec .sceneEntries s = .next (answer e (refuse .badArgument t)))
          ∧ (entries.length ≤ n - held.length → ¬ ((held ++ entries).map SceneEntry.fixture).Nodup →
              exec .sceneEntries s = .next (answer e (refuse .duplicate t)))
          ∧ (entries.length ≤ n - held.length → ((held ++ entries).map SceneEntry.fixture).Nodup →
              held.length + entries.length ≠ n →
              exec .sceneEntries s =
                .next (answer e
                  (report
                    [BitVec.ofNat 8 ((held.length + entries.length) / 256), BitVec.ofNat 8 (held.length + entries.length), 1]
                    { t with lights := { t.lights with scenes := s.lights.scenes.set x (.building n (held ++ entries)) } })))
          ∧ (entries.length ≤ n - held.length → ((held ++ entries).map SceneEntry.fixture).Nodup →
              held.length + entries.length = n →
              ∃ u, exec .sceneEntries s =
                  .next (answer e (report [BitVec.ofNat 8 (n / 256), BitVec.ofNat 8 n, 2] u))
                ∧ u.lights = { s.lights with scenes := s.lights.scenes.set x (.ready (held ++ entries)) }
                ∧ u.events.has .sceneReady = true ∧ u.follow = s.follow ∧ u.looks = s.looks ∧ u.cues = s.cues)

/-! ## Commands of the event unit -/

/-- CLEAR_EVENTS reports the 24 source flags and the group flags as they stand, then clears the flags its mask selects,
and changes nothing else of the event unit (R174, R183). READ_COUNTERS reports each counter of a set with its overflow
flag, and with clear yes then clears that set alone (R179). -/
def Obligations.FlagsAndCountersRead : Prop :=
  ∀ (s : State) (e : Entry) (rest : List Entry), Takes s e rest → e.payload.length = 3 →
    let t := beginCommand e rest s
    let p := e.payload
    (e.code = 0x78 →
        exec .clearEvents s =
          .next (answer e
            (report
              [BitVec.ofNat 8 (s.events.flags.toNat / 65536), BitVec.ofNat 8 (s.events.flags.toNat / 256)
               , BitVec.ofNat 8 s.events.flags.toNat, s.events.groups.setWidth 8]
              { t with events := { t.events with
                flags := s.events.flags &&& ~~~(BitVec.ofNat 24 (u8 p 0 * 65536 + u8 p 1 * 256 + u8 p 2)) } })))
      ∧ (e.code = 0x7B → 2 < u8 p 0 ∨ (u8 p 0 = 2 ∧ 7 < u8 p 1) ∨ 1 < u8 p 2 →
          exec .readCounters s = .next (answer e (refuse .badArgument t)))
      ∧ (e.code = 0x7B → u8 p 2 ≤ 1 →
          (u8 p 0 = 0 →
              exec .readCounters s =
                .next (answer e (report ((inputCounters t).flatMap Counter.bytes)
                  (if u8 p 2 = 1 then clearInputCounters t else t))))
            ∧ (u8 p 0 = 1 →
                exec .readCounters s =
                  .next (answer e (report ((intakeCounters t).flatMap Counter.bytes)
                    (if u8 p 2 = 1 then clearIntakeCounters t else t))))
            ∧ ∀ c : Fin 8, u8 p 0 = 2 → u8 p 1 = c.val →
              ∃ u, exec .readCounters s =
                  .next (answer e (report ((chainCounters s.ports[c]).flatMap Counter.bytes) u))
                ∧ u = { t with ports := u.ports } ∧ (∀ d : Fin 8, d ≠ c → u.ports[d] = s.ports[d])
                ∧ (u8 p 2 = 0 → u.ports[c] = s.ports[c])
                ∧ (u8 p 2 = 1 →
                    u.ports[c] = { s.ports[c] with linkErrors := Counter.zero, enumFails := Counter.zero
                                                   silentEvents := Counter.zero }))

/-- SET_NOTICE writes the enables and both thresholds together and makes the due test; a threshold or an enable code out
of range is refused with BAD_ARGUMENT (R175). -/
def Obligations.NoticeSettings : Prop :=
  ∀ (s : State) (e : Entry) (rest : List Entry), Takes s e rest → e.code = 0x79 → e.payload.length = 9 →
    let t := beginCommand e rest s
    let p := e.payload
    let inRange := 1 ≤ u8 p 7 ∧ u8 p 7 ≤ 16 ∧ 1 ≤ u8 p 8 ∧ ∀ i < 7, u8 p i ≤ 1
    (¬ inRange → exec .setNotice s = .next (answer e (refuse .badArgument t)))
      ∧ (inRange →
          ∃ u, exec .setNotice s = .next (answer e (done u))
            ∧ u.events.countThreshold = u8 p 7 ∧ u.events.frameThreshold = u8 p 8
            ∧ (∀ i : Fin 7, u.events.enables.getLsbD i.val = (u8 p i.val == 1))
            ∧ u.events.flags = s.events.flags ∧ u.looks = s.looks ∧ u.cues = s.cues ∧ u.store = s.store
            ∧ (s.events.pending < u8 p 7 → s.events.frames < u8 p 8 → s.events.due = false →
                u.events.due = false ∧ u.events.pending = s.events.pending ∧ u.ret = t.ret ∧ u.out = t.out)
            ∧ (u8 p 7 ≤ s.events.pending ∨ u8 p 8 ≤ s.events.frames → t.ret.free = 0 →
                u.events.due = true ∧ u.events.pending = s.events.pending ∧ u.ret = t.ret)
            ∧ (u8 p 7 ≤ s.events.pending ∨ u8 p 8 ≤ s.events.frames → t.ret.free ≠ 0 →
                u.events.due = false ∧ u.events.pending = 0 ∧ u.events.frames = 0 ∧ u.events.groups = 0))

/-- CLEAR_FAULTS moves every FAILED chain port under LATCHED to PROBE and every zone in SHUTDOWN under LATCHED that has
cooled to HOT, and nothing else; input loss is not ended, no source flag is cleared, and the reply lists the faults
still present: the chains, then the zones, a byte for each number, and a last byte for input loss (R12, R59, R107, R178,
R181; the order of the numbers in a list is rising, and the bytes that mark off a list are free, log 19). That a zone's
SHUTDOWN counter stays as it stands is the model's choice where the threshold was raised since the last frame end (log 35). -/
def Obligations.FaultsCleared : Prop :=
  ∀ (s : State) (e : Entry) (rest : List Entry), Takes s e rest → e.code = 0x7A → e.payload = [] →
    let t := beginCommand e rest s
    ∃ u d, exec .clearFaults s = .next (answer e (report d u))
      ∧ u = { t with ports := u.ports, thermal := { t.thermal with zones := u.thermal.zones } }
      ∧ (∀ c : Fin 8,
          u.ports[c] =
            if s.ports[c].state = .failed ∧ s.ports[c].config.recovery = .latched then
              { s.ports[c] with state := .probe, newlyEnabled := false, windowOpen := false, holdoffCount := 0 }
            else s.ports[c])
      ∧ (∀ z : Fin 16,
          u.thermal.zones[z] =
            if s.thermal.zones[z].state = .shutdown ∧ s.thermal.config.recovery = .latched
                ∧ s.thermal.zones[z].temp.all
                    (fun x => decide (x < s.thermal.config.shutdown - s.thermal.config.hysteresis)) = true then
              { s.thermal.zones[z] with state := .hot, down := 0 }
            else s.thermal.zones[z])
      ∧ ∃ chains zones : List Nat,
          d = Config.listBefore chains.length ++ chains.map (BitVec.ofNat 8) ++ Config.listAfter chains.length
              ++ Config.listBefore zones.length ++ zones.map (BitVec.ofNat 8) ++ Config.listAfter zones.length
              ++ [if s.store.lossActive then 1 else 0]
            ∧ chains.Pairwise (· < ·) ∧ zones.Pairwise (· < ·)
            ∧ (∀ n, n ∈ chains ↔ ∃ c : Fin 8, c.val = n ∧ u.ports[c].state = .failed)
            ∧ ∀ n, n ∈ zones ↔ ∃ z : Fin 16, z.val = n ∧ u.thermal.zones[z].state = .shutdown

/-! ## The forward lane -/

/-- A frame-start marker is passed on. In range, with no input frame open, it takes the lowest FREE page, keeping its
content when that was recorded at the same size and filling it otherwise; out of range, it is rejected with
FORMAT_REJECTED and takes no page. An input frame that is open closes first, whatever the marker: its page becomes LATEST
when no more lines are missing than the limit, an earlier LATEST page becoming FREE and counting FRAMES_DROPPED, and
otherwise FREE, counting FRAMES_BAD; a marker in range then takes the lowest page FREE after that (R1, R2, R3, R5, R6). -/
def Obligations.MarkerOpensOrRejects : Prop :=
  ∀ (s : State) (seq w h : BitVec 16),
    let ok := 64 ≤ w.toNat ∧ w.toNat ≤ 4096 ∧ 64 ≤ h.toNat ∧ h.toNat ≤ 2160
    (s.link.assembly ≠ .open → ok → ∀ p : Fin 3, pageIn .free s.store.pages = some p →
        ∃ t, exec (.frameStartMarker seq w h) s = .next t ∧ t.link = { s.link with assembly := .open, good := [] }
          ∧ t.out = { s.out with through := s.out.through ++ [markerBytes seq w h] } ∧ t.events = s.events
          ∧ t.ret = s.ret ∧ t.store = { s.store with pages := t.store.pages }
          ∧ (∀ q : Fin 3, q ≠ p → t.store.pages[q] = s.store.pages[q])
          ∧ t.store.pages[p].role = .write ∧ t.store.pages[p].seq = some seq
          ∧ t.store.pages[p].size = some (w.toNat, h.toNat)
          ∧ ∀ y, t.store.pages[p].line y =
              if s.store.pages[p].size = some (w.toNat, h.toNat) then s.store.pages[p].line y
              else List.replicate w.toNat s.store.fill)
      ∧ (s.link.assembly ≠ .open → ¬ ok →
          ∃ t, exec (.frameStartMarker seq w h) s = .next t ∧ t.link = { s.link with assembly := .rejected, good := [] }
            ∧ t.store = s.store ∧ t.events.has .formatRejected = true
            ∧ t.out.through = s.out.through ++ [markerBytes seq w h])
      ∧ ∀ p : Fin 3, s.link.assembly = .open → pageIn .write s.store.pages = some p →
          let enough := ((List.range s.store.pages[p].height).filter fun y => !s.link.good.contains y).length
            ≤ s.store.missingLimit
          let closed (j : Fin 3) : PageRole :=
            if j = p then (if enough then .latest else .free)
            else if enough ∧ s.store.pages[j].role = .latest then .free
            else s.store.pages[j].role
          let counted (t : State) : Prop :=
            t.store.bad = (if enough then s.store.bad else s.store.bad.inc)
              ∧ t.store.dropped =
                (if enough ∧ ∃ j : Fin 3, s.store.pages[j].role = .latest then s.store.dropped.inc else s.store.dropped)
          (¬ ok →
              ∃ t, exec (.frameStartMarker seq w h) s = .next t ∧ t.link = { s.link with assembly := .rejected, good := [] }
                ∧ t.events.has .formatRejected = true ∧ counted t
                ∧ t.store = { s.store with pages := t.store.pages, bad := t.store.bad, dropped := t.store.dropped }
                ∧ t.out.through = s.out.through ++ [markerBytes seq w h]
                ∧ ∀ j : Fin 3, t.store.pages[j] = { s.store.pages[j] with role := closed j })
            ∧ (ok → ∀ q : Fin 3, closed q = .free → (∀ j : Fin 3, j < q → closed j ≠ .free) →
                ∃ t, exec (.frameStartMarker seq w h) s = .next t
                  ∧ t.link = { s.link with assembly := .open, good := [] } ∧ t.events = s.events ∧ counted t
                  ∧ t.store = { s.store with pages := t.store.pages, bad := t.store.bad, dropped := t.store.dropped }
                  ∧ t.out = { s.out with through := s.out.through ++ [markerBytes seq w h] } ∧ t.ret = s.ret
                  ∧ (∀ j : Fin 3, j ≠ q → t.store.pages[j] = { s.store.pages[j] with role := closed j })
                  ∧ t.store.pages[q].role = .write ∧ t.store.pages[q].seq = some seq
                  ∧ t.store.pages[q].size = some (w.toNat, h.toNat)
                  ∧ ∀ y, t.store.pages[q].line y =
                      if s.store.pages[q].size = some (w.toNat, h.toNat) then s.store.pages[q].line y
                      else List.replicate w.toNat s.store.fill)

/-- A line packet is passed on. With no input frame open it is otherwise ignored. A good line is written at its line
number, and joins the set of good lines; a bad line counts LINE_BAD and writes nothing. A line with a right check at the
last line number closes the frame after that, good or not: with no more lines missing than the limit its page becomes
LATEST, an earlier LATEST page becoming FREE and counting FRAMES_DROPPED, and otherwise FREE, counting FRAMES_BAD (R1, R4,
R5, R6; picture codes read from the most significant bit of a byte, DEDUCED, log 36). -/
def Obligations.LinesJudged : Prop :=
  ∀ (s : State) (line count : BitVec 16) (pixels : List Byte) (check : BitVec 16),
    let bytes := lineBytes line count pixels check
    let row := Instr.linePacket line count pixels check
    (s.link.assembly ≠ .open → exec row s = .next (s.passOn bytes))
      ∧ ∀ p : Fin 3, s.link.assembly = .open → pageIn .write s.store.pages = some p →
        let good := checkRight bytes = true ∧ (pixelsCarried pixels).length = count.toNat
          ∧ line.toNat < s.store.pages[p].height ∧ count.toNat = s.store.pages[p].width
        (good → line.toNat + 1 ≠ s.store.pages[p].height →
            ∃ t, exec row s = .next t ∧ t.link.assembly = .open ∧ t.link.lineBad = s.link.lineBad
              ∧ (∀ n, n ∈ t.link.good ↔ n = line.toNat ∨ n ∈ s.link.good)
              ∧ t.store.pages[p] = s.store.pages[p].writeLine line.toNat (pixelsCarried pixels)
              ∧ (∀ q : Fin 3, q ≠ p → t.store.pages[q] = s.store.pages[q])
              ∧ t.out.through = s.out.through ++ [bytes] ∧ t.events = s.events)
          ∧ (¬ good → ¬ (checkRight bytes = true ∧ line.toNat + 1 = s.store.pages[p].height) →
              ∃ t, exec row s = .next t ∧ t.link = { s.link with lineBad := s.link.lineBad.inc } ∧ t.store = s.store
                ∧ t.out.through = s.out.through ++ [bytes])
          ∧ (checkRight bytes = true → line.toNat + 1 = s.store.pages[p].height →
              let goodNow := count.toNat = s.store.pages[p].width ∧ (pixelsCarried pixels).length = count.toNat
              let enough := ((List.range s.store.pages[p].height).filter fun y =>
                  !s.link.good.contains y && !(decide goodNow && y == line.toNat)).length ≤ s.store.missingLimit
              let judged : Page :=
                if goodNow then s.store.pages[p].writeLine line.toNat (pixelsCarried pixels) else s.store.pages[p]
              ∃ t, exec row s = .next t ∧ t.link.assembly = .idle ∧ t.link.good = []
                ∧ t.link.lineBad = (if goodNow then s.link.lineBad else s.link.lineBad.inc)
                ∧ t.store.pages[p] = { judged with role := if enough then .latest else .free }
                ∧ (∀ q : Fin 3, q ≠ p →
                    t.store.pages[q] =
                      if enough ∧ s.store.pages[q].role = .latest then { s.store.pages[q] with role := .free }
                      else s.store.pages[q])
                ∧ t.store.bad = (if enough then s.store.bad else s.store.bad.inc)
                ∧ t.store.dropped =
                  (if enough ∧ ∃ q : Fin 3, s.store.pages[q].role = .latest then s.store.dropped.inc else s.store.dropped)
                ∧ t.out.through = s.out.through ++ [bytes] ∧ t.events = s.events)

/-- A margin packet of a bad length counts FRAMING, one with a wrong check CHECK, one among an input frame's lines
MISPLACED, and each is passed on (R160, R162). Any other is matched by its address, in this order: 0x00 matches nothing,
0xFF is broadcast, the address of slot 0, 1 or 2 is direct, one that agrees with slot 3 under the mask is group, and any
other matches nothing (R161). With no match it is passed on; a match joins the intake queue, and a direct one is not
passed on; a match that finds the queue full counts INTAKE_FULL when it is no direct one, and otherwise gets a FULL reply
or counts REPLIES_DROPPED (R161, R162, R164). A packet that is no marker, line or margin packet is passed on and otherwise
ignored (R181). -/
def Obligations.MarginPacketsJudged : Prop :=
  ∀ (s : State),
    (∀ bytes, (Instr.unknownForwardPacket bytes).wellFormed = true →
        exec (.unknownForwardPacket bytes) s = .next (s.passOn bytes))
      ∧ ∀ body : List Byte,
        let framed := 7 ≤ body.length ∧ u16 body 3 ≤ 1024 ∧ u16 body 3 + 7 = body.length
        let on := s.passOn (3 :: body)
        let a := body.getD 0 0
        let match' : Option MatchKind :=
          if a = 0x00 then none
          else if a = 0xFF then some .broadcast
          else if a = s.intake.slot0 ∨ s.intake.slot1 = some a ∨ s.intake.slot2 = some a then some .direct
          else if ∃ g ∈ s.intake.slot3, a &&& s.intake.mask = g &&& s.intake.mask then some .group
          else none
        let entry (k : MatchKind) : Entry :=
          { kind := k, dest := body.getD 0 0, code := body.getD 1 0, tag := body.getD 2 0
            payload := (body.drop 5).take (u16 body 3) }
        (¬ framed →
            exec (.marginPacket body) s = .next { on with intake := { s.intake with framing := s.intake.framing.inc } })
          ∧ (framed → checkRight (3 :: body) = false →
              exec (.marginPacket body) s = .next { on with intake := { s.intake with check := s.intake.check.inc } })
          ∧ (framed → checkRight (3 :: body) = true → s.link.assembly = .open →
              exec (.marginPacket body) s =
                .next { on with intake := { s.intake with misplaced := s.intake.misplaced.inc } })
          ∧ (framed → checkRight (3 :: body) = true → s.link.assembly ≠ .open →
              (match' = none → exec (.marginPacket body) s = .next on)
                ∧ (s.intake.queue.length < 8 → match' = some .direct →
                    ∃ t, exec (.marginPacket body) s = .next t
                      ∧ t.intake.queue = s.intake.queue ++ [entry .direct] ∧ t.out = s.out ∧ t.ret = s.ret)
                ∧ (∀ k, s.intake.queue.length < 8 → match' = some k → k ≠ .direct →
                    ∃ t, exec (.marginPacket body) s = .next t
                      ∧ t.intake.queue = s.intake.queue ++ [entry k] ∧ t.out = on.out ∧ t.ret = s.ret)
                ∧ (∀ k, 8 ≤ s.intake.queue.length → match' = some k → k ≠ .direct →
                    exec (.marginPacket body) s =
                      .next { on with intake := { s.intake with intakeFull := s.intake.intakeFull.inc } })
                ∧ (8 ≤ s.intake.queue.length → match' = some .direct → s.ret.free = 0 →
                    exec (.marginPacket body) s =
                      .next { s with intake := { s.intake with repliesDropped := s.intake.repliesDropped.inc } })
                ∧ (8 ≤ s.intake.queue.length → match' = some .direct → s.ret.free ≠ 0 →
                    exec (.marginPacket body) s =
                      .next (placeOwn (.reply (body.getD 0 0) (statusByte s) (body.getD 1 0) (body.getD 2 0) .full []) s)))

/-! ## The output frame events -/

/-- A REF pulse locks the generator, raises REF_RESTORED when the reference was lost, and is a frame start at once, or
is held while the current frame has not ended; a second one merges with it (R14, R16). In LOCKED, the loss timeout makes
the reference LOST, raises REF_LOSS and starts a frame in the same way (R15); elsewhere nothing changes (log 9). The frame
start made so, `frameStart`, is the one whose work FrameStartWork, ThermalAndFollowFrameEnd and DriveNeverExceedsDemand
state (R17, Table 1-7). -/
def Obligations.ReferenceEvents : Prop :=
  ∀ s : State,
    let locked := { s with timing := { s.timing with ref := .locked } }
    let lost := { s with timing := { s.timing with ref := .lost } }
    (s.timing.phase = .active →
        ∃ t, exec .refPulse s = .next t ∧ t.timing = { s.timing with ref := .locked, held := true }
          ∧ (s.timing.ref = .lost → t.events.has .refRestored = true)
          ∧ (s.timing.ref ≠ .lost → t.events = s.events ∧ t.ret = s.ret) ∧ t.store = s.store ∧ t.comp = s.comp)
      ∧ (s.timing.phase ≠ .active →
          ∃ t, exec .refPulse s = .next t
            ∧ t = frameStart (if s.timing.ref = .lost then raise .refRestored locked else locked)
            ∧ t.timing.ref = .locked ∧ t.timing.frame = s.timing.frame + 1
            ∧ t.timing.phase = .active ∧ t.timing.held = false
            ∧ (s.timing.ref = .lost → t.events.has .refRestored = true))
      ∧ (s.timing.ref ≠ .locked → exec .refLossTimeout s = .next s)
      ∧ (s.timing.ref = .locked → s.timing.phase = .active →
          ∃ t, exec .refLossTimeout s = .next t ∧ t.timing = { s.timing with ref := .lost, held := true }
            ∧ t.events.has .refLoss = true ∧ t.store = s.store ∧ t.comp = s.comp)
      ∧ (s.timing.ref = .locked → s.timing.phase ≠ .active →
          ∃ t, exec .refLossTimeout s = .next t ∧ t = frameStart (raise .refLoss lost) ∧ t.timing.ref = .lost
            ∧ t.timing.frame = s.timing.frame + 1
            ∧ t.timing.phase = .active ∧ t.events.has .refLoss = true)

/-- An output frame start, `frameStart`, advances the frame number and applies a pending rate; a LATEST page becomes
READ with its size, its sequence number and its lines, the page that was READ becomes FREE, the ever-read marker is set
and an input loss ends; or a repeat is counted, which may raise one, and every page stays. The other pages, the counters
it does not count and the settings stay. The picture source and the input state follow. Both masters and the four
attributes' fades make their step; the latch is taken from the stepped master, the scales and the slot statuses, and a
slot that becomes MISMATCH raises TILE_MISMATCH. Ports send their requests and open their windows, a port in PROBE with
no probe where it was enabled since the last frame event (Table 3-4; that the row speaks of these enables is DEDUCED,
log 31). The slot images are composed from the stepped levels, and every enabled line sends its level packet (R8, R10,
R11, R12, R17, R50, R51, R61, R60, R62, R67, R87, R90, R141, R143, R154, R157). Looks, zones, cues and the intake queue
stay. OUTPUT_FRAME_START is this frame start outside LOCKED with no frame in progress; in LOCKED, where REF pulses alone
start frames (R14), and within a frame the row changes nothing (the model's choice, log 6). ReferenceEvents and
FrameEndWork say where else it is taken. -/
def Obligations.FrameStartWork : Prop :=
  ∀ s : State,
    let ramped (value : Nat) (r : Ramp) (value' : Nat) (r' : Ramp) : Prop :=
      (r.active = false → value' = value ∧ r' = r)
        ∧ (r.active = true → r.total ≤ r.taken + 1 → value' = r.target ∧ r'.active = false)
        ∧ (r.active = true → r.taken + 1 < r.total →
            value' =
                ((r.start : Int) + Int.tdiv (((r.target : Int) - r.start) * (r.taken + 1 : Nat)) r.total).toNat
              ∧ r' = { r with taken := r.taken + 1 })
    let stepped (a : Attr) : Attr :=
      match a.fade with
      | none => a
      | some f =>
        if f.total ≤ f.elapsed + 1 then { current := f.target, fade := none }
        else
          { current := ((f.start : Int) + Int.tdiv (((f.target : Int) - f.start) * (f.elapsed + 1 : Nat)) f.total).toNat
            fade := some { f with elapsed := f.elapsed + 1 } }
    let isMapped (e : TileEntry) (i : Identity) : Prop :=
      ∃ ty, typeAt s.looks.types e.typeId = some ty ∧ i.code = ty.code ∧ i.width = ty.width ∧ i.height = ty.height
        ∧ i.depth = ty.depth
    (s.timing.ref = .locked ∨ s.timing.phase = .active → exec .outputFrameStart s = .next s)
      ∧ (s.timing.ref ≠ .locked → s.timing.phase ≠ .active → exec .outputFrameStart s = .next (frameStart s))
      ∧ (let t := frameStart s
         t.timing =
           { s.timing with
             frame := s.timing.frame + 1, rate := s.timing.pendingRate.getD s.timing.rate, pendingRate := none
             phase := .active, held := false }
         ∧ (∀ p : Fin 3, s.store.pages[p].role = .latest →
             t.store.pages[p] = { s.store.pages[p] with role := .read }
               ∧ (∀ q : Fin 3,
                   (s.store.pages[q].role = .read → t.store.pages[q] = { s.store.pages[q] with role := .free })
                     ∧ (s.store.pages[q].role = .free ∨ s.store.pages[q].role = .write →
                         t.store.pages[q] = s.store.pages[q]))
               ∧ t.store =
                 { s.store with
                   pages := t.store.pages, repeats := 0, everRead := true, inputState := .live, lossActive := false })
         ∧ ((∀ p : Fin 3, s.store.pages[p].role ≠ .latest) →
             t.store =
               { s.store with
                 repeats := min 65535 (s.store.repeats + 1), repeated := s.store.repeated.inc
                 inputState := t.store.inputState, lossActive := t.store.lossActive })
         ∧ (∀ p : Fin 3, pageIn .latest s.store.pages = some p →
             t.comp.source = .page p ∧ t.comp.raster = s.store.pages[p].size ∧ t.store.inputState = .live
               ∧ t.store.lossActive = false ∧ (s.store.lossActive = true → t.events.has .inputRestored = true))
         ∧ ((∀ p : Fin 3, s.store.pages[p].role ≠ .latest) →
             t.store.lossActive = (s.store.lossActive || decide (s.store.holdLimit ≤ t.store.repeats))
               ∧ (s.store.lossActive = false → t.store.lossActive = true → t.events.has .inputLoss = true)
               ∧ t.store.inputState =
                 (if s.store.everRead = false then .none
                  else if t.store.lossActive = false then .live
                  else if s.store.lossAction = .hold then .lossHold else .lossFill)
               ∧ (s.store.everRead = false → t.comp.source = .none)
               ∧ (s.store.everRead = true → s.store.lossActive = true → s.store.lossAction = .fill →
                   t.comp.source = .fill)
               ∧ (s.store.everRead = true → s.store.lossActive = false ∨ s.store.lossAction = .hold →
                   ∀ p : Fin 3, pageIn .read s.store.pages = some p →
                     t.comp.source = .page p ∧ t.comp.raster = s.store.pages[p].size))
         ∧ ramped s.power.master s.power.ramp t.power.master t.power.ramp
         ∧ ramped s.lights.master s.lights.ramp t.lights.master t.lights.ramp
         ∧ (∀ slot : Fin 128,
             let e := s.looks.active.tiles[slot]
             let port := s.ports[(⟨slot.val / 16, by omega⟩ : Fin 8)]
             (∀ i, port.state = .run → port.roster[slot.val % 16]? = some i →
                 (e.present = false → t.comp.status[slot] = .unmapped)
                   ∧ (e.present = true → isMapped e i → t.comp.status[slot] = .mapped)
                   ∧ (e.present = true → ¬ isMapped e i → t.comp.status[slot] = .mismatch))
               ∧ (port.state ≠ .run ∨ port.roster.length ≤ slot.val % 16 →
                   t.comp.status[slot] = if e.present then .absent else .empty)
               ∧ (t.comp.status[slot] = .mismatch → s.comp.status[slot] ≠ .mismatch →
                   t.events.has .tileMismatch = true))
         ∧ (t.comp.look = s.looks.active ∧ t.comp.master = t.power.master ∧ t.comp.fill = s.store.fill
             ∧ (∀ z : Fin 16, t.comp.zoneScale[z] = s.thermal.zones[z].scale
                 ∧ t.comp.composite[z] = (t.power.master * s.thermal.zones[z].scale + 2048) / 4096)
             ∧ ∀ c : Fin 8, t.comp.limiter[c] = s.power.limiters[c].scale)
         ∧ (∀ c : Fin 8, s.ports[c].state = .run → t.power.limiters[c].measured = true)
         ∧ (∀ c : Fin 8,
             let p := s.ports[c]
             (p.state = .probe → p.newlyEnabled = false →
                 t.out.chains[c] = [[0xC1, 0]] ∧ t.ports[c] = { p with windowOpen := true })
               ∧ (p.state = .probe → p.newlyEnabled = true →
                   t.out.chains[c] = [] ∧ t.ports[c] = { p with newlyEnabled := false })
               ∧ (p.state = .enumerate →
                   t.out.chains[c] = [[0xC2]]
                     ∧ t.ports[c] = { p with windowOpen := true, collection := [], overlong := false })
               ∧ (p.state = .off ∨ p.state = .failed → t.out.chains[c] = [])
               ∧ (p.state = .off ∨ p.state = .failed ∨ p.state = .run → t.ports[c] = p))
         ∧ (∀ x : Fin 96,
             let f := s.lights.fixtures[x]
             t.lights.fixtures[x] = { f with i := stepped f.i, r := stepped f.r, g := stepped f.g, b := stepped f.b })
         ∧ (FixtureLaw s → ∀ l : Fin 4,
             (∀ x : Fin 96, s.lights.fixtures[x].present = true → s.lights.fixtures[x].line = l.val →
                 let f := t.lights.fixtures[x]
                 let v := t.follow.values[x]
                 let i := (f.i.current * t.lights.master + 2048) / 4096
                 let r := if f.followOn then v.r else f.r.current
                 let g := if f.followOn then v.g else f.g.current
                 let b := if f.followOn then v.b else f.b.current
                 let fold (n : Nat) : Nat := (n * i + 32767) / 65535
                 let eight (n : Nat) : Byte := BitVec.ofNat 8 ((n * 255 + 32767) / 65535)
                 let coarse (n : Nat) : Byte := BitVec.ofNat 8 (n / 256)
                 let fine (n : Nat) : Byte := BitVec.ofNat 8 n
                 (t.follow.images[l].toList.drop (f.base - 1)).take f.kind.slots =
                   match f.kind with
                   | .dim8 => [eight i]
                   | .dim16 => [coarse i, fine i]
                   | .rgb8 => [eight (fold r), eight (fold g), eight (fold b)]
                   | .rgbi8 => [eight r, eight g, eight b, eight i]
                   | .rgb16 => [coarse (fold r), fine (fold r), coarse (fold g), fine (fold g), coarse (fold b), fine (fold b)])
               ∧ ∀ k : Fin 320,
                 (∀ x : Fin 96,
                   let f := s.lights.fixtures[x]
                   f.present = true → f.line = l.val → k.val + 1 < f.base ∨ f.base + f.kind.slots ≤ k.val + 1) →
                 t.follow.images[l][k] = 0)
         ∧ (∀ l : Fin 4, s.follow.lines[l].enable = false → t.out.lights[l] = none)
         ∧ (∀ l : Fin 4, s.follow.lines[l].enable = true → s.follow.lines[l].slots ≤ 320 →
             t.out.lights[l] =
               some (withCheck
                 ([0xD1, BitVec.ofNat 8 l.val] ++ be2 s.follow.lines[l].slots ++ [t.timing.frame.setWidth 8]
                   ++ t.follow.images[l].toList.take s.follow.lines[l].slots)))
         ∧ t.looks = s.looks ∧ t.thermal = s.thermal ∧ t.cues = s.cues ∧ t.link = s.link ∧ t.pins = s.pins
         ∧ t.intake.queue = s.intake.queue)

/-- An output frame end notes the ended frame, clears every demand accumulator and ends the frame; a frame start that is
held is taken right behind it, on the state it leaves (R14, R15, R17, R91, R93, R113). Every due cue fires: with no
repeat it leaves the queue; with repeat count 0 it is re-armed; with a repeat count of 1–255 its remaining count goes
down by one, and it leaves the queue when that reaches 0 and is re-armed otherwise. The cues that stay keep their
places, and the last fired id is that of the last due cue (R116, R121, R123). The event unit counts the frame end when the
pending count is above 0 and makes the due test (R175): with no slot free the frame count goes up by one whatever is
raised; at a frame end that raises nothing the event unit is as that count and test leave it, and a notice that is due
takes a free slot. A frame end with no due cue, no check, no port in RUN or ENUMERATE and no tile in a zone raises nothing.
With no frame in progress nothing changes (the model's choice, log 6). -/
def Obligations.FrameEndWork : Prop :=
  ∀ (order : FrameEndOrder) (s : State),
    let m := s.timing.frame
    let due (c : Cue) : Bool :=
      match c.trigger with
      | .atFrame n => decide ((m + 1 - n).toNat < 2 ^ 31)
      | .next => true
      | .onTally edge => edge
    let rearmed (c : Cue) (r : CueRepeat) : Cue :=
      { c with trigger := .atFrame (m + 1 + BitVec.ofNat 32 r.period), rep := some r }
    let stays (c : Cue) : Option Cue :=
      if due c then
        match c.rep with
        | none => none
        | some r =>
          if r.count = 0 then some (rearmed c r)
          else if r.remaining - 1 = 0 then none
          else some (rearmed c { r with remaining := r.remaining - 1 })
      else some c
    let frames := if s.events.pending = 0 then s.events.frames else min 255 (s.events.frames + 1)
    let reached := s.events.countThreshold ≤ s.events.pending ∨ s.events.frameThreshold ≤ frames
    (s.timing.phase ≠ .active → exec (.outputFrameEnd order) s = .next s)
      ∧ (s.timing.phase = .active → s.timing.held = false →
          ∃ t, exec (.outputFrameEnd order) s = .next t ∧ t.timing = { s.timing with phase := .ended }
            ∧ t.cues.ended = some m
            ∧ t.cues.queue = s.cues.queue.filterMap stays
            ∧ (∀ c, (s.cues.queue.filter due).getLast? = some c →
                t.cues.lastFired = c.id ∧ t.events.has .cueFired = true)
            ∧ (∀ c ∈ s.cues.queue, ¬ due c → c ∈ t.cues.queue)
            ∧ (∀ c ∈ s.cues.queue, due c → c.rep = none → (s.cues.queue.map Cue.id).Nodup →
                c.id ∉ t.cues.queue.map Cue.id)
            ∧ (∀ c ∈ s.cues.queue, due c → ∀ r, c.rep = some r → r.count = 0 →
                { c with trigger := .atFrame (m + 1 + BitVec.ofNat 32 r.period) } ∈ t.cues.queue)
            ∧ ((∀ c ∈ s.cues.queue, ¬ due c) →
                t.cues.queue = s.cues.queue ∧ t.cues.lastFired = s.cues.lastFired
                  ∧ (s.looks.staged ≠ .checking → t.looks = s.looks)
                  ∧ t.power.master = s.power.master ∧ t.power.ramp = s.power.ramp ∧ t.lights = s.lights)
            ∧ (s.events.pending ≠ 0 → s.ret.free = 0 →
                t.events.frames = frames ∧ (s.events.frameThreshold ≤ frames → t.events.due = true))
            ∧ ((∀ c ∈ s.cues.queue, ¬ due c) → s.looks.staged ≠ .checking →
                (∀ c : Fin 8, s.ports[c].state ≠ .run ∧ s.ports[c].state ≠ .enumerate) →
                (∀ x : Fin 128, s.comp.status[x] ≠ .mapped ∧ s.comp.status[x] ≠ .mismatch) →
                1 ≤ s.thermal.config.deglitch → t.events.flags = s.events.flags)
            ∧ (t.events.flags = s.events.flags →
                (¬ reached → s.events.due = false → t.events = { s.events with frames := frames } ∧ t.ret = s.ret)
                  ∧ (reached ∨ s.events.due = true → s.ret.free = 0 →
                      t.events = { s.events with frames := frames, due := true } ∧ t.ret = s.ret)
                  ∧ (reached ∨ s.events.due = true → s.ret.free ≠ 0 →
                      t.events = { s.events with groups := 0, pending := 0, frames := 0, due := false }
                        ∧ ∃ status : Byte,
                          let notice := ReturnPacket.notice s.intake.slot0 status (s.events.groups.setWidth 8)
                          (s.ret.sending.isSome = true → t.ret = { s.ret with own := s.ret.own ++ [notice] })
                            ∧ (s.ret.sending = none → s.ret.own = [] → s.ret.pass = [] →
                                t.ret = { s.ret with last := .own, sending := some notice.bytes })))
            ∧ (∀ c : Fin 8, t.power.limiters[c].acc = 0)
            ∧ t.power.master = s.power.master ∧ t.lights.master = s.lights.master ∧ t.store = s.store
            ∧ t.comp = s.comp ∧ t.link = s.link ∧ t.pins = s.pins ∧ t.thermal.config = s.thermal.config)
      ∧ (s.timing.phase = .active → s.timing.held = true →
          ∃ t u, exec (.outputFrameEnd order) s = .next t
            ∧ exec (.outputFrameEnd order) { s with timing := { s.timing with held := false } } = .next u
            ∧ t = frameStart u ∧ t.timing.frame = m + 1 ∧ t.timing.phase = .active
            ∧ t.timing.held = false ∧ t.cues.ended = some m)

/-- What an output frame end with no frame start held makes of each chain port and its limiter. A probe answered leads
to ENUMERATE; an enumeration installs its roster and enters RUN, or goes back to PROBE; in RUN each roster position's
freshness is evaluated, and position 0 at the silent limit fails the chain; in FAILED the holdoff counts and may end
(R50, R52, R55, R56, R57). The limiter scale of a chain measured and staying in RUN is set by attack, release or hold;
it is 0 on entering and on leaving RUN, and never rises by more than the release step (R91, R92, R93, R95). -/
def Obligations.ChainAndPowerFrameEnd : Prop :=
  ∀ (order : FrameEndOrder) (s : State), s.timing.phase = .active → s.timing.held = false →
    ∃ t, exec (.outputFrameEnd order) s = .next t ∧ ∀ c : Fin 8,
      let p := s.ports[c]
      let q := t.ports[c]
      let old := s.power.limiters[c]
      let new := t.power.limiters[c]
      let since (i : Fin 16) : Nat := if p.reports[i].fresh then 0 else min 255 (p.reports[i].since + 1)
      let staysUp := p.roster = [] ∨ since 0 < p.config.silentLimit
      let held := min 255 (p.holdoffCount + 1)
      let current := old.acc / 655350000
      let target := if current ≤ p.config.budget then 4096 else p.config.budget * 4096 / current
      (p.state = .off ∨ p.state = .enumerate ∧ p.windowOpen = false → q = p)
        ∧ (p.state = .probe →
            q =
              { p with
                state := if p.answered then .enumerate else .probe, newlyEnabled := false, windowOpen := false
                answered := false })
        ∧ (p.state = .enumerate → p.windowOpen = true → p.collection = [] →
            q = { p with state := .probe, newlyEnabled := false, windowOpen := false, enumFails := p.enumFails.inc })
        ∧ (p.state = .enumerate → p.windowOpen = true → p.collection ≠ [] →
            (q.state = .run ∧ q.roster = p.collection ∧ q.stale = false ∧ q.windowOpen = false ∧ q.config = p.config)
              ∧ (∀ i : Fin 16, q.reports[i] = { last := none, since := 0, silent := false, fresh := false })
              ∧ t.events.has .chainUp = true
              ∧ (p.stale = true → p.roster ≠ p.collection → t.events.has .rosterChanged = true)
              ∧ new.scale = 0 ∧ new.measured = false)
        ∧ (p.state = .run → staysUp →
            (q.state = .run ∧ q.roster = p.roster ∧ q.stale = p.stale ∧ q.config = p.config)
              ∧ ∀ i : Fin 16, i.val < p.roster.length →
                q.reports[i].last = p.reports[i].last ∧ q.reports[i].since = since i ∧ q.reports[i].fresh = false
                  ∧ (q.reports[i].silent = true ↔
                      p.reports[i].silent = true ∧ p.reports[i].fresh = false
                        ∨ 0 < i.val ∧ p.config.silentLimit ≤ since i))
        ∧ (p.state = .run → ¬ staysUp →
            (q.state = .failed ∧ q.stale = true ∧ q.roster = p.roster ∧ q.holdoffCount = 0)
              ∧ (∀ i : Fin 16, q.reports[i].silent = false ∧ q.reports[i].last = p.reports[i].last)
              ∧ t.events.has .chainFailed = true ∧ new.scale = 0 ∧ new.measured = false)
        ∧ (p.state = .failed →
            q.state = (if p.config.recovery = .auto ∧ p.config.holdoff ≤ held then .probe else .failed)
              ∧ (q.state = .probe → q.newlyEnabled = false ∧ q.windowOpen = false)
              ∧ q.holdoffCount = held ∧ q.roster = p.roster ∧ q.stale = p.stale ∧ q.reports = p.reports)
        ∧ (p.state = .run → staysUp → old.measured = true →
            new.scale = (if target < old.scale then target else min target (old.scale + p.config.releaseStep))
              ∧ (old.scale = 4096 → target < 4096 → t.events.has .limiting = true)
              ∧ (1024 ≤ old.scale → target < 1024 → t.events.has .powerHeavy = true))
        ∧ (p.state = .run → staysUp → old.measured = false → new.scale = old.scale)
        ∧ new.scale ≤ old.scale + p.config.releaseStep

/-- What the two frame events make of zones, regions and follow values. At an output frame start, which outside LOCKED
OUTPUT_FRAME_START makes, each defined region of the ACTIVE look sums the picture codes inside it: those of the READ
page that lie in its raster under PAGE, the fill colour at every pixel under FILL, nothing under NONE (R146, R147; that
the sums stand complete at the frame start is the model's choice, log 12: the manual clears them there and adds during
the frame); and each following fixture whose region is published steps its follow value toward the gained target (R150).
At an output frame end with no frame start held, a defined region publishes the floor of its sums over its count, and
one that measured nothing becomes invalid (R148). A zone's members are the MAPPED and MISMATCH slots of the latched look
that name it; its temperature is the highest that a member's place in the report store gives, which is warn-high at a
SILENT place or a report with no reading, the reading otherwise, and nothing where no report is held, and it is none
where no member gives one (R99, Table 6-3), with the store as it stands before or after the ports' evaluation, by the
order (R100); its level counters run while its temperature stands at or above their thresholds; it moves up to the
highest state whose counter has reached the deglitch, or else down by one state when its down counter, which runs while
the temperature stands below the leave threshold less the hysteresis, has; its down counter is 0 after a move and in
NORMAL; and its scale falls to its target at once and rises by at most the recovery step, the target being 0 in
SHUTDOWN, and everywhere under GLOBAL response while a zone is in SHUTDOWN (R98, R101, R102, R103, R104, R105, R106). -/
def Obligations.ThermalAndFollowFrameEnd : Prop :=
  (∀ s : State,
    let t := frameStart s
    (s.timing.ref ≠ .locked → s.timing.phase ≠ .active → exec .outputFrameStart s = .next t)
      ∧ (∀ i : Fin 16,
          let r := s.looks.active.regions[i]
          let x := t.follow.running[i]
          (r.width = 0 ∨ r.height = 0 ∨ t.comp.source = .none → x = { sum := Rgb.all 0, count := 0 })
            ∧ (r.width ≠ 0 → r.height ≠ 0 →
                (t.comp.source = .fill →
                    x.count = r.width * r.height ∧ x.sum.r = x.count * s.store.fill.r
                      ∧ x.sum.g = x.count * s.store.fill.g ∧ x.sum.b = x.count * s.store.fill.b)
                  ∧ ∀ p : Fin 3, ∀ w h : Nat, t.comp.source = .page p → t.store.pages[p].size = some (w, h) →
                    let xs := (List.range w).filter fun n : Nat => decide (r.x ≤ (n : Int) ∧ (n : Int) < r.x + r.width)
                    let ys := (List.range h).filter fun n : Nat => decide (r.y ≤ (n : Int) ∧ (n : Int) < r.y + r.height)
                    let total (channel : Rgb → Nat) : Nat :=
                      (ys.map fun y => (xs.map fun n => channel (t.store.pages[p].pixel n y)).sum).sum
                    x.count = xs.length * ys.length ∧ x.sum.r = total Rgb.r ∧ x.sum.g = total Rgb.g
                      ∧ x.sum.b = total Rgb.b))
      ∧ ∀ n : Fin 96,
          let f := s.lights.fixtures[n]
          let v := s.follow.values[n]
          let moved (v a : Nat) : Nat :=
            let gained := min 65535 ((((a * 65535 + 2047) / 4095) * f.gain + 2048) / 4096)
            let step := Int.tdiv (((gained : Int) - v) * f.rate) 256
            if step ≠ 0 then ((v : Int) + step).toNat
            else if v < gained then v + 1 else if gained < v then v - 1 else v
          (∀ r : Fin 16, ∀ a, f.present = true → f.followOn = true → f.region = some r.val →
              s.follow.published[r] = some a →
              t.follow.values[n] = { r := moved v.r a.r, g := moved v.g a.g, b := moved v.b a.b })
            ∧ (f.present = false ∨ f.followOn = false ∨ f.region = none
                ∨ (∃ r : Fin 16, f.region = some r.val ∧ s.follow.published[r] = none) → t.follow.values[n] = v))
  ∧ ∀ (order : FrameEndOrder) (s : State), s.timing.phase = .active → s.timing.held = false →
    ∃ t, exec (.outputFrameEnd order) s = .next t
      ∧ (∀ i : Fin 16,
          let r := s.comp.look.regions[i]
          let x := s.follow.running[i]
          let valid := r.width ≠ 0 ∧ r.height ≠ 0 ∧ s.comp.source ≠ .none ∧ x.count ≠ 0
          (valid → t.follow.published[i] = some { r := x.sum.r / x.count, g := x.sum.g / x.count, b := x.sum.b / x.count })
            ∧ (¬ valid → t.follow.published[i] = none))
      ∧ ∀ z : Fin 16,
        let r := s.thermal.zones[z]
        let q := t.thermal.zones[z]
        let cfg := s.thermal.config
        let runs (before after : Nat) (limit : Int) : Prop :=
          (∀ x, q.temp = some x → limit ≤ x → after = min 255 (before + 1))
            ∧ (∀ x, q.temp = some x → x < limit → after = 0) ∧ (q.temp = none → after = 0)
        let down (limit : Int) : Nat :=
          if q.temp.all fun x => decide (x < limit - cfg.hysteresis) then min 255 (r.down + 1) else 0
        let target := match q.state with | .normal => 4096 | .warm => 4096 | .hot => cfg.derate | .shutdown => 0
        let member (slot : Fin 128) : Prop :=
          (s.comp.status[slot] = .mapped ∨ s.comp.status[slot] = .mismatch) ∧ s.comp.look.tiles[slot].zone = z.val
        let gives (ports : Vector ChainPort 8) (slot : Fin 128) (x : Int) : Prop :=
          let place := ports[(⟨slot.val / 16, by omega⟩ : Fin 8)].reports[(⟨slot.val % 16, by omega⟩ : Fin 16)]
          if place.silent = true then x = cfg.warnHigh
          else ∃ r, place.last = some r ∧ (r.reading = some x ∨ r.reading = none ∧ x = cfg.warnHigh)
        let highest (ports : Vector ChainPort 8) : Prop :=
          (∀ x, q.temp = some x →
              (∃ slot, member slot ∧ gives ports slot x) ∧ ∀ slot y, member slot → gives ports slot y → y ≤ x)
            ∧ (q.temp = none → ∀ slot y, member slot → ¬ gives ports slot y)
        (order.thermalFirst = true → highest s.ports ∧ q.temp = effectiveTemp s z)
          ∧ (order.thermalFirst = false → highest t.ports ∧ q.temp = effectiveTemp { s with ports := t.ports } z)
          ∧ q.members = ((List.finRange 128).filter fun slot =>
              (s.comp.status[slot] == .mapped || s.comp.status[slot] == .mismatch)
                && s.comp.look.tiles[slot].zone == z.val).length
          ∧ runs r.warm q.warm cfg.warnLow ∧ runs r.hot q.hot cfg.warnHigh ∧ runs r.shut q.shut cfg.shutdown
          ∧ (r.state ≠ .shutdown → cfg.deglitch ≤ q.shut → q.state = .shutdown ∧ t.events.has .zoneShutdown = true)
          ∧ (r.state = .normal ∨ r.state = .warm → q.shut < cfg.deglitch → cfg.deglitch ≤ q.hot →
              q.state = .hot ∧ t.events.has .zoneHot = true)
          ∧ (r.state = .normal → q.shut < cfg.deglitch → q.hot < cfg.deglitch → cfg.deglitch ≤ q.warm →
              q.state = .warm ∧ t.events.has .zoneWarm = true)
          ∧ (r.state = .normal → q.shut < cfg.deglitch → q.hot < cfg.deglitch → q.warm < cfg.deglitch →
              q.state = .normal)
          ∧ (r.state = .shutdown → q.state = .shutdown ∨ cfg.recovery = .auto ∧ q.state = .hot)
          ∧ (r.state = .hot → q.shut < cfg.deglitch →
              q.state = if cfg.deglitch ≤ down cfg.warnHigh then .warm else .hot)
          ∧ (r.state = .warm → q.shut < cfg.deglitch → q.hot < cfg.deglitch →
              q.state = if cfg.deglitch ≤ down cfg.warnLow then .normal else .warm)
          ∧ (r.state = .shutdown →
              q.state = if cfg.recovery = .auto ∧ cfg.deglitch ≤ down cfg.shutdown then .hot else .shutdown)
          ∧ (q.state ≠ r.state ∨ r.state = .normal → q.down = 0)
          ∧ (q.state = .warm → r.state = .warm → q.down = down cfg.warnLow)
          ∧ (q.state = .hot → r.state = .hot → q.down = down cfg.warnHigh)
          ∧ (q.state = .shutdown → r.state = .shutdown → q.down = down cfg.shutdown)
          ∧ (q.state = .shutdown → q.scale = 0)
          ∧ (cfg.response = .global → (∃ y : Fin 16, t.thermal.zones[y].state = .shutdown) → q.scale = 0)
          ∧ (cfg.response = .zone ∨ (∀ y : Fin 16, t.thermal.zones[y].state ≠ .shutdown) →
              q.scale = if target < r.scale then target else min target (r.scale + cfg.recoveryStep))
          ∧ q.scale ≤ r.scale + cfg.recoveryStep

/-- The due cues of an output frame end issue their actions in queue order, whatever their trigger and their repeat: each
SWAP_LOOK exchanges the banks' roles when the staged state is CHECKED, and is skipped and noted otherwise, so that two of
one frame end cancel (R42, R43); each MASTER and each LIGHT_MASTER begins a ramp from the master's value, so that the later
one stands (R86, R142); each cue's LIGHT_FADE entries in the order carried and then its FOLLOW act on each fixture as the
actions before left it (R121, R122, R140, R151, R152, R153); the last skipped record is that of the last action skipped.
For a lone due cue: its id is the last fired, CUE_FIRED is raised, and with no repeat it leaves the queue (R123); a
LIGHT_FADE from a READY scene sets each attribute its mask names of every reached fixture, at once for length 0 and as a
fade otherwise; one from a scene that is EMPTY or BUILDING is skipped and noted with its place; FOLLOW on starts the reached
fixtures that have a region from their current colour, and FOLLOW off hands the follow values of the reached fixtures that
follow back, restarting their colour fades over the frames left. -/
def Obligations.CueActionsIssued : Prop :=
  ∀ (order : FrameEndOrder) (s : State), s.timing.phase = .active → s.timing.held = false →
    let due (c : Cue) : Bool :=
      match c.trigger with
      | .atFrame n => decide ((s.timing.frame + 1 - n).toNat < 2 ^ 31)
      | .next => true
      | .onTally edge => edge
    let dues := s.cues.queue.filter due
    let begun (value : Nat) (m : MasterAction) : Ramp :=
      { active := true, start := value, target := m.target, total := m.frames, taken := 0 }
    let reached (mask : BitVec 16) (f : Fixture) : Prop := f.present = true ∧ f.groups &&& mask ≠ 0
    let faded (frames : Nat) (v : Nat) (a : Attr) : Attr :=
      if frames = 0 then { current := v, fade := none }
      else { a with fade := some { start := a.current, target := v, total := frames, elapsed := 0 } }
    let faded' (frames : Nat) (v : Option Nat) (a : Attr) : Attr :=
      match v with
      | none => a
      | some v => faded frames v a
    let handed (v : Nat) (a : Attr) : Attr :=
      { current := v
        fade := a.fade.map fun d => { start := v, target := d.target, total := d.total - d.elapsed, elapsed := 0 } }
    let fadedBy (x : Fin 96) (c : Cue) (f : Fixture) : Fixture :=
      c.fades.foldl
        (fun (f : Fixture) (a : FadeAction) =>
          match s.lights.scenes[a.scene]? with
          | some (.ready entries) =>
            match entries.find? fun e => e.fixture == x.val with
            | some e =>
              if f.present = true ∧ f.groups &&& a.mask ≠ 0 then
                { f with i := faded' a.frames e.i f.i, r := faded' a.frames e.r f.r
                         g := faded' a.frames e.g f.g, b := faded' a.frames e.b f.b }
              else f
            | none => f
          | _ => f)
        f
    let followed (c : Cue) (f : Fixture) (v : Rgb) : Fixture × Rgb :=
      match c.follow with
      | none => (f, v)
      | some a =>
        if ¬ (f.present = true ∧ f.groups &&& a.mask ≠ 0) then (f, v)
        else if a.on = true then
          if f.followOn = false ∧ f.region.isSome = true then
            ({ f with followOn := true }, { r := f.r.current, g := f.g.current, b := f.b.current })
          else (f, v)
        else if f.followOn = true then
          ({ f with followOn := false, r := handed v.r f.r, g := handed v.g f.g, b := handed v.b f.b }, v)
        else (f, v)
    let skips (c : Cue) : List (Nat × SkippedAction) :=
      (if c.swapLook = true ∧ s.looks.staged ≠ .checked then [(c.id, .swapLook)] else [])
        ++ c.fades.zipIdx.filterMap fun (x : FadeAction × Nat) =>
          match s.lights.scenes[x.1.scene]? with
          | some (.ready _) => none
          | _ => some (c.id, .lightFade x.2)
    ∃ t, exec (.outputFrameEnd order) s = .next t
      ∧ t.power.ramp =
        dues.foldl (fun r c => match c.master with | some m => begun s.power.master m | none => r) s.power.ramp
      ∧ t.lights = { s.lights with fixtures := t.lights.fixtures, ramp := t.lights.ramp }
      ∧ t.lights.ramp =
        dues.foldl (fun r c => match c.lightMaster with | some m => begun s.lights.master m | none => r) s.lights.ramp
      ∧ (s.looks.staged = .checked →
          t.looks =
              { s.looks with
                activeIsBank1 := dues.foldl (fun b c => if c.swapLook = true then !b else b) s.looks.activeIsBank1 }
            ∧ ∀ c ∈ dues, c.swapLook = true → t.events.has .swapDone = true)
      ∧ (∀ c ∈ dues, c.swapLook = true → s.looks.staged ≠ .checked → t.events.has .swapSkipped = true)
      ∧ t.cues.lastSkipped = (dues.flatMap skips).getLast?.or s.cues.lastSkipped
      ∧ (dues.flatMap skips ≠ [] → t.events.has .cueActionSkipped = true)
      ∧ ((∀ c ∈ dues, ∀ a ∈ c.fades, ∀ entries, s.lights.scenes[a.scene]? = some (.ready entries) →
            (entries.map SceneEntry.fixture).Nodup) →
          ∀ x : Fin 96,
            (t.lights.fixtures[x], t.follow.values[x]) =
              dues.foldl (fun y c => followed c (fadedBy x c y.1) y.2) (s.lights.fixtures[x], s.follow.values[x]))
      ∧ (∀ c d, dues = [c, d] → t.cues.lastFired = d.id ∧ t.events.has .cueFired = true
          ∧ (c.swapLook = true → d.swapLook = true → s.looks.staged = .checked →
              t.looks = s.looks ∧ t.events.has .swapDone = true)
          ∧ (∀ m, d.master = some m → t.power.ramp = begun s.power.master m)
          ∧ (∀ m, d.lightMaster = some m → t.lights.ramp = begun s.lights.master m))
      ∧ ∀ c, dues = [c] →
          t.cues.lastFired = c.id ∧ t.events.has .cueFired = true
          ∧ (c.rep = none → t.cues.queue = s.cues.queue.filter fun d => !due d)
          ∧ (c.swapLook = true → s.looks.staged = .checked →
              t.looks = { s.looks with activeIsBank1 := !s.looks.activeIsBank1 } ∧ t.events.has .swapDone = true)
          ∧ (c.swapLook = true → s.looks.staged ≠ .checked →
              (s.looks.staged = .editing → t.looks = s.looks) ∧ t.events.has .swapSkipped = true
                ∧ t.events.has .cueActionSkipped = true
                ∧ (c.fades = [] → t.cues.lastSkipped = some (c.id, .swapLook)))
          ∧ (c.swapLook = false →
              (s.looks.staged ≠ .checking → t.looks = s.looks) ∧ (c.fades = [] → t.cues.lastSkipped = s.cues.lastSkipped))
          ∧ (∀ m, c.master = some m → t.power.ramp = begun s.power.master m)
          ∧ (c.master = none → t.power.ramp = s.power.ramp)
          ∧ (∀ m, c.lightMaster = some m → t.lights.ramp = begun s.lights.master m)
          ∧ (c.lightMaster = none → t.lights.ramp = s.lights.ramp)
          ∧ (c.fades = [] → c.follow = none → t.lights.fixtures = s.lights.fixtures)
          ∧ (∀ a entries, c.fades = [a] → c.follow = none → s.lights.scenes[a.scene]? = some (.ready entries) →
              (entries.map SceneEntry.fixture).Nodup →
              ∀ x : Fin 96, ∀ e ∈ entries, e.fixture = x.val →
                let f := s.lights.fixtures[x]
                (reached a.mask f →
                    (∀ v, e.i = some v → t.lights.fixtures[x].i = faded a.frames v f.i)
                      ∧ (e.i = none → t.lights.fixtures[x].i = f.i)
                      ∧ (∀ v, e.r = some v → t.lights.fixtures[x].r = faded a.frames v f.r)
                      ∧ (∀ v, e.g = some v → t.lights.fixtures[x].g = faded a.frames v f.g)
                      ∧ ∀ v, e.b = some v → t.lights.fixtures[x].b = faded a.frames v f.b)
                  ∧ (¬ reached a.mask f → t.lights.fixtures[x] = f))
          ∧ (∀ a, c.fades = [a] → c.follow = none → s.lights.scenes[a.scene]? = some .empty →
              t.lights.fixtures = s.lights.fixtures ∧ t.events.has .cueActionSkipped = true
                ∧ t.cues.lastSkipped = some (c.id, .lightFade 0))
          ∧ (∀ a n held, c.fades = [a] → c.follow = none → s.lights.scenes[a.scene]? = some (.building n held) →
              t.lights.fixtures = s.lights.fixtures ∧ t.events.has .cueActionSkipped = true
                ∧ t.cues.lastSkipped = some (c.id, .lightFade 0))
          ∧ (∀ k : Nat, ∀ a, c.fades[k]? = some a → (∀ entries, s.lights.scenes[a.scene]? ≠ some (.ready entries)) →
              t.events.has .cueActionSkipped = true
                ∧ ((∀ j b, k < j → c.fades[j]? = some b → ∃ entries, s.lights.scenes[b.scene]? = some (.ready entries)) →
                    t.cues.lastSkipped = some (c.id, .lightFade k)))
          ∧ (∀ a, c.fades = [] → c.follow = some a → a.on = false → ∀ x : Fin 96,
              let f := s.lights.fixtures[x]
              let v := s.follow.values[x]
              t.follow.values[x] = v
                ∧ (reached a.mask f → f.followOn = true →
                    t.lights.fixtures[x] =
                      { f with followOn := false, r := handed v.r f.r, g := handed v.g f.g, b := handed v.b f.b })
                ∧ (¬ (reached a.mask f ∧ f.followOn = true) → t.lights.fixtures[x] = f))
          ∧ (∀ a, c.fades = [] → c.follow = some a → a.on = true → ∀ x : Fin 96,
              let f := s.lights.fixtures[x]
              (reached a.mask f → f.followOn = false → f.region.isSome = true →
                  t.lights.fixtures[x] = { f with followOn := true }
                    ∧ t.follow.values[x] = { r := f.r.current, g := f.g.current, b := f.b.current })
                ∧ (¬ (reached a.mask f ∧ f.followOn = false ∧ f.region.isSome = true) →
                  t.lights.fixtures[x] = f ∧ t.follow.values[x] = s.follow.values[x]))

/-! ## Thresholds -/

/-- INPUT_LOSS is the output frame start at which input loss is raised (R11): with no page LATEST, input loss not active and
the repeat count it reaches at or above the hold limit, it does what OUTPUT_FRAME_START does, and input loss becomes
active. TILE_SILENT, CHAIN_FAILED and HOLDOFF_EXPIRY are the output frame end, in some order of its work, at which a
position is marked SILENT (R55), a chain fails (R56) or a holdoff is over (R57), each after that frame end's own count.
Where the thing would not come about, the row changes nothing (that these rows stand for the frame events is the model's
choice, log 4). -/
def Obligations.ThresholdEvents : Prop :=
  ∀ s : State,
    (let due := s.timing.ref ≠ .locked ∧ s.timing.phase ≠ .active ∧ s.store.lossActive = false
       ∧ (∀ p : Fin 3, s.store.pages[p].role ≠ .latest) ∧ s.store.holdLimit ≤ min 65535 (s.store.repeats + 1)
     (¬ due → exec .inputLoss s = .next s)
       ∧ (due → exec .inputLoss s = exec .outputFrameStart s
            ∧ ∃ t, exec .inputLoss s = .next t ∧ t.store.lossActive = true ∧ t.events.has .inputLoss = true
              ∧ t.store.repeats = min 65535 (s.store.repeats + 1) ∧ t.timing.frame = s.timing.frame + 1
              ∧ t.store.pages = s.store.pages ∧ t.link = s.link))
      ∧ (s.timing.phase ≠ .active → ∀ c : Fin 8,
          (∀ i : Fin 16, exec (.tileSilent c i) s = .next s) ∧ exec (.chainFailed c) s = .next s
            ∧ exec (.holdoffExpiry c) s = .next s)
      ∧ (s.timing.phase = .active →
          ∃ order t, exec (.outputFrameEnd order) { s with freeIndex := s.freeIndex + 1 } = .next t ∧ ∀ c : Fin 8,
            let p := s.ports[c]
            let q := t.ports[c]
            let since (i : Fin 16) : Nat := if p.reports[i].fresh then 0 else min 255 (p.reports[i].since + 1)
            let silent (i : Fin 16) : Prop :=
              p.state = .run ∧ 0 < i.val ∧ i.val < p.roster.length ∧ p.config.silentLimit ≤ since i
                ∧ ¬ (p.reports[i].silent = true ∧ p.reports[i].fresh = false)
            let fails : Prop := p.state = .run ∧ p.roster ≠ [] ∧ p.config.silentLimit ≤ since 0
            let recovers : Prop :=
              p.state = .failed ∧ p.config.recovery = .auto ∧ p.config.holdoff ≤ min 255 (p.holdoffCount + 1)
            (∀ i : Fin 16,
                (¬ silent i → exec (.tileSilent c i) s = .next s)
                  ∧ (silent i → exec (.tileSilent c i) s = .next t ∧ t.events.has .tileSilent = true
                      ∧ q.silentEvents = p.silentEvents.add ((List.finRange 16).countP fun j => decide (silent j))
                      ∧ q.reports[i].last = p.reports[i].last ∧ q.reports[i].since = since i
                      ∧ (¬ fails → q.reports[i].silent = true)))
              ∧ (¬ fails → exec (.chainFailed c) s = .next s)
              ∧ (fails → exec (.chainFailed c) s = .next t ∧ t.events.has .chainFailed = true
                  ∧ q.state = .failed ∧ q.stale = true ∧ q.roster = p.roster ∧ q.config = p.config ∧ q.holdoffCount = 0
                  ∧ (∀ i : Fin 16, q.reports[i].silent = false ∧ q.reports[i].last = p.reports[i].last)
                  ∧ t.power.limiters[c] = { scale := 0, acc := 0, measured := false })
              ∧ (¬ recovers → exec (.holdoffExpiry c) s = .next s)
              ∧ (recovers → exec (.holdoffExpiry c) s = .next t
                  ∧ q =
                    { p with
                      state := .probe, newlyEnabled := false, windowOpen := s.timing.held
                      holdoffCount := min 255 (p.holdoffCount + 1) }))

/-- ZONE_WARM, ZONE_HOT, ZONE_SHUTDOWN, ZONE_STEP_DOWN and ZONE_SHUTDOWN_EXIT are the output frame end, in some order of
its work, at which a zone makes the move they name, and change nothing where it does not make it (the model's choice,
log 4). The move is made after that frame end's counts: up to the highest state whose level counter has reached the
deglitch, which raises its event (R101, R102), with the zone black in SHUTDOWN, and every zone under GLOBAL response (R105,
R106); otherwise down by one state when the down counter has reached it, and from SHUTDOWN to HOT under AUTO (R103, R104).
The counts are said for a temperature that the chain ports' evaluation before or after does not decide (R100). -/
def Obligations.ZoneMoves : Prop :=
  ∀ s : State,
    (s.timing.phase ≠ .active → ∀ z : Fin 16,
        exec (.zoneWarm z) s = .next s ∧ exec (.zoneHot z) s = .next s ∧ exec (.zoneShutdown z) s = .next s
          ∧ exec (.zoneStepDown z) s = .next s ∧ exec (.zoneShutdownExit z) s = .next s)
      ∧ (s.timing.phase = .active →
          ∃ order t, exec (.outputFrameEnd order) { s with freeIndex := s.freeIndex + 1 } = .next t ∧ ∀ z : Fin 16,
            let cfg := s.thermal.config
            let r := s.thermal.zones[z]
            let q := t.thermal.zones[z]
            let temps : List (Option Int) :=
              [effectiveTemp s z, effectiveTemp { s with ports := (portsFrameEnd { state := s, left := none }).state.ports } z]
            let counted (n : Nat) (limit : Int) (e : Option Int) : Nat :=
              if e.any fun x => decide (limit ≤ x) then min 255 (n + 1) else 0
            let reach (n : Nat) (limit : Int) : Prop := ∀ e ∈ temps, cfg.deglitch ≤ counted n limit e
            let miss (n : Nat) (limit : Int) : Prop := ∀ e ∈ temps, counted n limit e < cfg.deglitch
            let cooled (limit : Int) : Prop :=
              cfg.deglitch ≤ min 255 (r.down + 1)
                ∧ ∀ e ∈ temps, e.all (fun x => decide (x < limit - cfg.hysteresis)) = true
            exec (.zoneWarm z) s = .next (if r.state = .normal ∧ q.state = .warm then t else s)
              ∧ exec (.zoneHot z) s =
                .next (if (r.state = .normal ∨ r.state = .warm) ∧ q.state = .hot then t else s)
              ∧ exec (.zoneShutdown z) s = .next (if r.state ≠ .shutdown ∧ q.state = .shutdown then t else s)
              ∧ exec (.zoneStepDown z) s =
                .next (if r.state = .hot ∧ q.state = .warm ∨ r.state = .warm ∧ q.state = .normal then t else s)
              ∧ exec (.zoneShutdownExit z) s = .next (if r.state = .shutdown ∧ q.state = .hot then t else s)
              ∧ (q.state ≠ r.state → q.down = 0)
              ∧ (r.state = .normal → q.state = .warm → t.events.has .zoneWarm = true)
              ∧ (r.state = .normal ∨ r.state = .warm → q.state = .hot → t.events.has .zoneHot = true)
              ∧ (r.state ≠ .shutdown → q.state = .shutdown →
                  t.events.has .zoneShutdown = true ∧ q.scale = 0
                    ∧ (cfg.response = .global → ∀ y : Fin 16, t.thermal.zones[y].scale = 0))
              ∧ (r.state ≠ .shutdown → reach r.shut cfg.shutdown → q.state = .shutdown)
              ∧ (r.state = .normal ∨ r.state = .warm → miss r.shut cfg.shutdown → reach r.hot cfg.warnHigh →
                  q.state = .hot)
              ∧ (r.state = .normal → miss r.shut cfg.shutdown → miss r.hot cfg.warnHigh → reach r.warm cfg.warnLow →
                  q.state = .warm)
              ∧ (r.state = .hot → miss r.shut cfg.shutdown → cooled cfg.warnHigh → q.state = .warm)
              ∧ (r.state = .warm → miss r.shut cfg.shutdown → miss r.hot cfg.warnHigh → cooled cfg.warnLow →
                  q.state = .normal)
              ∧ (r.state = .shutdown → cfg.recovery = .auto → cooled cfg.shutdown → q.state = .hot))

/-- Raising an event whose source flag is set changes nothing. One whose flag is clear sets it, and nothing else while its
group is not enabled; in an enabled group it also sets the group flag and adds one to the pending count, and the due test
follows (R173, R175). NOTICE_DUE makes the due test of R175 and NOTICE_QUEUED gives a due notice a free slot (R176): the
notice carries slot 0's address, the status byte and the group flags, and the coalescing state is cleared (that both come
as rows of their own too is the model's choice, log 4). -/
def Obligations.NoticeEvents : Prop :=
  (∀ (x : Source) (s : State),
    (s.events.has x = true → raise x s = s)
      ∧ (s.events.has x = false → s.events.enabled x.group = false →
          raise x s = { s with events := { s.events with flags := s.events.flags ||| 1#24 <<< x.bit } })
      ∧ (s.events.has x = false → s.events.enabled x.group = true →
          exec .noticeDue
              { s with
                events :=
                  { s.events with
                    flags := s.events.flags ||| 1#24 <<< x.bit
                    groups := s.events.groups ||| 1#7 <<< x.group.bit
                    pending := min 255 (s.events.pending + 1) } } =
            .next (raise x s)))
  ∧ ∀ s : State,
    let reached := s.events.countThreshold ≤ s.events.pending ∨ s.events.frameThreshold ≤ s.events.frames
    let cleared := { s.events with groups := 0, pending := 0, frames := 0, due := false }
    let notice := ReturnPacket.notice s.intake.slot0 (statusByte s) (s.events.groups.setWidth 8)
    (¬ reached → s.events.due = false → exec .noticeDue s = .next s)
      ∧ (reached ∨ s.events.due = true → s.ret.free = 0 →
          exec .noticeDue s = .next { s with events := { s.events with due := true } })
      ∧ (reached ∨ s.events.due = true → s.ret.free ≠ 0 →
          ∃ t, exec .noticeDue s = .next t ∧ t.events = cleared ∧ t.looks = s.looks ∧ t.store = s.store
            ∧ (s.ret.sending.isSome = true → t.ret.own = s.ret.own ++ [notice])
            ∧ (s.ret.sending = none → s.ret.own = [] → s.ret.pass = [] → t.ret.sending = some notice.bytes))
      ∧ (s.events.due = false ∨ s.ret.free = 0 → exec .noticeQueued s = .next s)
      ∧ (s.events.due = true → s.ret.free ≠ 0 →
          ∃ t, exec .noticeQueued s = .next t ∧ t.events = cleared ∧ t.looks = s.looks ∧ t.store = s.store
            ∧ (s.ret.sending.isSome = true → t.ret.own = s.ret.own ++ [notice])
            ∧ (s.ret.sending = none → s.ret.own = [] → s.ret.pass = [] → t.ret.sending = some notice.bytes))

/-- A tally rising edge sets the level and the edge mark of every ON_TALLY cue then in the queue, and changes no other
cue; a falling edge changes the level and nothing else (R127). That both hold whatever the level was before is the model's
choice (log 10). -/
def Obligations.TallyEdges : Prop :=
  ∀ s : State,
    exec .tallyFallingEdge s = .next { s with pins := { s.pins with tally := false } }
      ∧ ∃ t, exec .tallyRisingEdge s = .next t ∧ t.pins = { s.pins with tally := true }
        ∧ t = { s with pins := t.pins, cues := { s.cues with queue := t.cues.queue } }
        ∧ t.cues.queue.length = s.cues.queue.length
        ∧ ∀ k : Nat, ∀ c, s.cues.queue[k]? = some c →
          (∀ edge, c.trigger = .onTally edge → t.cues.queue[k]? = some { c with trigger := .onTally true })
            ∧ ((∀ edge, c.trigger ≠ .onTally edge) → t.cues.queue[k]? = some c)

/-- A chain-port packet of a wrong type, length or check is as if it had not arrived (R182). An identity record answers
a probe or joins the collection only while the window is open. A seventeenth is discarded, raises ROSTER_OVERLONG and
sets the port's mark that it has been raised for this enumeration (the mark is the model's, log 21); a later one is
discarded and changes nothing (R50, R51). A tile report of a roster position of a chain in RUN replaces its report, sets
its fresh mark and adds its errors; one from beyond the roster raises ROSTER_STALE and is otherwise ignored (R54). -/
def Obligations.ChainArrivals : Prop :=
  ∀ (s : State) (c : Fin 8) (bytes : List Byte),
    let p := s.ports[c]
    (bytes.length ≠ 14 ∨ u8 bytes 0 ≠ 0xC8 ∨ checkRight bytes = false → exec (.identityArrival c bytes) s = .next s)
      ∧ (∀ i, readIdentityRecord bytes = some i →
          (p.windowOpen = false ∨ p.state = .off ∨ p.state = .run ∨ p.state = .failed →
              exec (.identityArrival c bytes) s = .next s)
            ∧ (p.windowOpen = true → p.state = .probe →
                exec (.identityArrival c bytes) s = .next (s.modifyPort c fun q => { q with answered := true }))
            ∧ (p.windowOpen = true → p.state = .enumerate → p.collection.length < 16 →
                exec (.identityArrival c bytes) s =
                  .next (s.modifyPort c fun q => { q with collection := q.collection ++ [i] }))
            ∧ (p.windowOpen = true → p.state = .enumerate → 16 ≤ p.collection.length → p.overlong = false →
                exec (.identityArrival c bytes) s =
                    .next (raise .rosterOverlong (s.modifyPort c fun q => { q with overlong := true }))
                  ∧ ∃ t, exec (.identityArrival c bytes) s = .next t ∧ t.events.has .rosterOverlong = true
                    ∧ t.ports[c] = { p with overlong := true } ∧ ∀ d : Fin 8, d ≠ c → t.ports[d] = s.ports[d])
            ∧ (p.windowOpen = true → p.state = .enumerate → 16 ≤ p.collection.length → p.overlong = true →
                exec (.identityArrival c bytes) s = .next s))
      ∧ (bytes.length ≠ 7 ∨ u8 bytes 0 ≠ 0xC9 ∨ checkRight bytes = false → exec (.tileReportArrival c bytes) s = .next s)
      ∧ ∀ position r, readTileReport bytes = some (position, r) →
        (p.state ≠ .run → exec (.tileReportArrival c bytes) s = .next s)
          ∧ (p.state = .run → p.roster.length ≤ position ∨ 16 ≤ position →
              exec (.tileReportArrival c bytes) s = .next (raise .rosterStale s))
          ∧ (p.state = .run → position < p.roster.length → position < 16 →
              ∃ t, exec (.tileReportArrival c bytes) s = .next t ∧ t = { s with ports := t.ports }
                ∧ (∀ d : Fin 8, d ≠ c → t.ports[d] = s.ports[d])
                ∧ t.ports[c] = { p with reports := t.ports[c].reports, linkErrors := p.linkErrors.add r.errors }
                ∧ ∀ j : Fin 16, t.ports[c].reports[j] =
                    if j.val = position then { p.reports[j] with last := some r, fresh := true } else p.reports[j])

/-- A packet from the through link joins the pass queue, is sent at once on an idle lane, and is dropped and counted
when the queue holds 16 (R168). At the completion of a send the lane takes the oldest packet of the queue not named by
the last-source mark when both hold one, and of the other when one is empty (R169). With a notice due the lane does the
same, and a slot that is then free goes to the notice, which clears the coalescing state (R176); where the executor is
WAITING or the intake queue is full, so that another may claim it, the slot stays free and a later row decides (the model's
choice, log 16). -/
def Obligations.ReturnLaneAlternates : Prop :=
  ∀ s : State,
    (∀ bytes,
        (16 ≤ s.ret.pass.length →
            exec (.passPacketArrival bytes) s = .next { s with ret := { s.ret with drops := s.ret.drops.inc } })
          ∧ (s.ret.pass.length < 16 → s.ret.sending.isSome = true →
              exec (.passPacketArrival bytes) s = .next { s with ret := { s.ret with pass := s.ret.pass ++ [bytes] } })
          ∧ (s.ret.sending = none → s.ret.own = [] → s.ret.pass = [] →
              ∃ t, exec (.passPacketArrival bytes) s = .next t ∧ t.ret.sending = some bytes ∧ t.ret.last = .pass
                ∧ t.ret.pass = [] ∧ t.out.upstream = s.out.upstream ++ [bytes]))
      ∧ (s.ret.sending = none → exec .sendCompletion s = .next s)
      ∧ (s.ret.sending.isSome = true → s.events.due = false →
          (s.ret.own = [] → s.ret.pass = [] →
              exec .sendCompletion s = .next { s with ret := { s.ret with sending := none } })
            ∧ (∀ p own, s.ret.own = p :: own → s.ret.pass = [] ∨ s.ret.last = .pass →
                exec .sendCompletion s =
                  .next { s with ret := { s.ret with own := own, last := .own, sending := some p.bytes }
                                 out := { s.out with upstream := s.out.upstream ++ [p.bytes] } })
            ∧ ∀ q pass, s.ret.pass = q :: pass → s.ret.own = [] ∨ s.ret.last = .own →
                exec .sendCompletion s =
                  .next { s with ret := { s.ret with pass := pass, last := .pass, sending := some q }
                                 out := { s.out with upstream := s.out.upstream ++ [q] } })
      ∧ (s.ret.sending.isSome = true → s.events.due = true →
          ∃ u, exec .sendCompletion { s with events := { s.events with due := false } } = .next u
            ∧ (s.intake.executor = .waiting ∨ 8 ≤ s.intake.queue.length ∨ u.ret.free = 0 →
                exec .sendCompletion s = .next { u with events := s.events })
            ∧ (s.intake.executor ≠ .waiting → s.intake.queue.length < 8 → u.ret.free ≠ 0 →
                let notice := ReturnPacket.notice s.intake.slot0 (statusByte s) (s.events.groups.setWidth 8)
                ∃ t, exec .sendCompletion s = .next t
                  ∧ t.events = { s.events with groups := 0, pending := 0, frames := 0, due := false }
                  ∧ (u.ret.sending.isSome = true →
                      t.ret = { u.ret with own := u.ret.own ++ [notice] } ∧ t.out = u.out)
                  ∧ (u.ret.sending = none →
                      t.ret = { u.ret with last := .own, sending := some notice.bytes }
                        ∧ t.out = { u.out with upstream := u.out.upstream ++ [notice.bytes] })
                  ∧ t.intake =
                    { s.intake with
                      executor :=
                        if s.intake.headDirect = true ∧ t.ret.free = 0 then .waiting else s.intake.executor }
                  ∧ t = { s with events := t.events, ret := t.ret, out := t.out, intake := t.intake }))

/-! ## Pixel arithmetic -/

/-- At an output frame start, which outside LOCKED OUTPUT_FRAME_START makes, a chain in RUN sends, position by position,
all tile lines of its roster record's size: the picture's drive where the slot is MAPPED, 0 elsewhere; and its
accumulator goes up by the demand of the pixels of its MAPPED slots, each channel's demand times the type's coefficient,
and by nothing else (R53, R76, R79, R81; all at the frame's start, log 12). The law of drive and demand: with the
limiter scale within 0–4096, the output level of every channel of every tile pixel is at most its demand, with scale
4096 it equals it, and the drive fits the tile's depth (R75, R77, R78). The seven stages, for every tile pixel: the
source pixel that origin and orientation give (R70, Table 4-4); the picture code there, which is the page's inside its
raster and the border code outside it under PAGE, and the fill colour under FILL and NONE (R71); the level on the curve
the entry names (R72); the gain of the profile it names (R73); the composite of its zone, the demand (R74, R75); the
limiter scale of the chain (R77); and the drive at the depth of the type (R78). That drive codes
fill a byte from its most significant bit is DEDUCED (log 36). -/
def Obligations.DriveNeverExceedsDemand : Prop :=
  (∀ s : State,
    let t := frameStart s
    (s.timing.ref ≠ .locked → s.timing.phase ≠ .active → exec .outputFrameStart s = .next t) ∧ ∀ c : Fin 8,
      let mappedType (i : Fin 16) : Option TileType :=
        if t.comp.status[slotOf c i] = .mapped then typeAt s.looks.types s.looks.active.tiles[slotOf c i].typeId else none
      let pixel (i : Fin 16) (u v : Nat) : Rgb :=
        match mappedType i with
        | some ty => pixelDrive t.comp t.store.pages c s.looks.active.tiles[slotOf c i] ty u v
        | none => { r := 0, g := 0, b := 0 }
      let demand (i : Fin 16) (u v : Nat) : Nat :=
        match mappedType i with
        | some ty =>
          let d := pixelDemand t.comp t.store.pages s.looks.active.tiles[slotOf c i] ty u v
          d.r * ty.k.r + d.g * ty.k.g + d.b * ty.k.b
        | none => 0
      (s.ports[c].state = .run →
          t.out.chains[c] =
              (List.finRange 16).flatMap (fun i =>
                match s.ports[c].roster[i.val]? with
                | some id =>
                  (List.range id.height).map fun v =>
                    tileLineBytes i.val v id.depth ((List.range id.width).map fun u => pixel i u v)
                | none => [])
            ∧ t.power.limiters[c].acc =
              s.power.limiters[c].acc
                + ((List.finRange 16).map fun i =>
                    match s.ports[c].roster[i.val]? with
                    | some id =>
                      ((List.range id.height).map fun v => ((List.range id.width).map fun u => demand i u v).sum).sum
                    | none => 0).sum)
        ∧ (s.ports[c].state ≠ .run → t.power.limiters[c].acc = s.power.limiters[c].acc))
  ∧ (∀ (l : FrameLatch) (pages : Vector Page 3) (c : Fin 8) (e : TileEntry) (t : TileType) (u v : Nat),
    l.limiter[c] ≤ 4096 → zoneComposite l e ≤ 4096 →
    let d := pixelDemand l pages e t u v
    let o := pixelOutput l pages c e t u v
    let q := pixelDrive l pages c e t u v
    (d.r ≤ 65535 ∧ d.g ≤ 65535 ∧ d.b ≤ 65535) ∧ (o.r ≤ d.r ∧ o.g ≤ d.g ∧ o.b ≤ d.b)
      ∧ (l.limiter[c] = 4096 → o = d) ∧ (l.limiter[c] = 0 → o = Rgb.all 0)
      ∧ q.r ≤ 2 ^ t.depth - 1 ∧ q.g ≤ 2 ^ t.depth - 1 ∧ q.b ≤ 2 ^ t.depth - 1)
  ∧ ∀ (l : FrameLatch) (pages : Vector Page 3) (c : Fin 8) (e : TileEntry) (t : TileType) (u v : Nat) (code : Rgb)
      (curve : Fin 8) (profile : Fin 64) (zone : Fin 16),
    e.curve = curve.val → e.profile = profile.val → e.zone = zone.val → code.r ≤ 4095 → code.g ≤ 4095 → code.b ≤ 4095 →
    let xs : Int :=
      match e.orientation with
      | .normal | .mirrorV => e.x + u
      | .rot180 | .mirrorH => e.x + t.width - 1 - u
    let ys : Int :=
      match e.orientation with
      | .normal | .mirrorH => e.y + v
      | .rot180 | .mirrorV => e.y + t.height - 1 - v
    let sampled : Prop :=
      match l.source with
      | .page p =>
        ∃ w h : Nat, l.raster = some (w, h)
          ∧ code = if 0 ≤ xs ∧ xs ≤ w - 1 ∧ 0 ≤ ys ∧ ys ≤ h - 1 then pages[p].pixel xs.toNat ys.toNat else l.look.border
      | .fill | .none => code = l.fill
    let point (k : Nat) : Int := (l.look.curves[curve][k]?).getD 0
    let level (x : Nat) : Nat := (point (x / 128) + ((point (x / 128 + 1) - point (x / 128)) * (x % 128 : Nat) + 64) / 128).toNat
    let demand (x gain : Nat) : Nat :=
      (min 65535 ((level x * gain + 16384) / 32768) * l.composite[zone] + 2048) / 4096
    let output (x gain : Nat) : Nat := (demand x gain * l.limiter[c] + 2048) / 4096
    let drive (x gain : Nat) : Nat := (output x gain * (2 ^ t.depth - 1) + 32767) / 65535
    let gains := l.look.profiles[profile]
    let each (stage : Nat → Nat → Nat) : Rgb :=
      { r := stage code.r gains.r, g := stage code.g gains.g, b := stage code.b gains.b }
    sampled → pixelDemand l pages e t u v = each demand ∧ pixelOutput l pages c e t u v = each output
      ∧ pixelDrive l pages c e t u v = each drive

/-! ## Laws that every step keeps -/

/-- R7: every step keeps the law on page roles, and a page that is READ before and after a step has the same size,
sequence number and content. -/
def Obligations.PageLawKept : Prop :=
  ∀ s t : State, step s = .next t → PageLaw s →
    PageLaw t ∧ ∀ i : Fin 3, s.store.pages[i].role = .read → t.store.pages[i].role = .read →
      t.store.pages[i] = s.store.pages[i]

/-- R27, R40: every step keeps the law of the banks and of the frame ends a running check has seen. -/
def Obligations.LookLawKept : Prop := ∀ s t : State, step s = .next t → LookLaw s → LookLaw t

/-- Every step keeps the law of the chain ports (R47–R52, R56–R58). -/
def Obligations.ChainLawKept : Prop := ∀ s t : State, step s = .next t → ChainLaw s → ChainLaw t

/-- Every step keeps the law of the limiters (R89, R93). -/
def Obligations.LimiterLawKept : Prop := ∀ s t : State, step s = .next t → LimiterLaw s → LimiterLaw t

/-- Every step keeps the law of the zones (R105, R106, R109). -/
def Obligations.ZoneLawKept : Prop := ∀ s t : State, step s = .next t → ZoneLaw s → ZoneLaw t

/-- Every step keeps the law of the cue queue and of the two masters (R84, R113, R142). -/
def Obligations.CueLawKept : Prop := ∀ s t : State, step s = .next t → CueLaw s → CueLaw t

/-- Every step keeps the law of the fixture table, and from a state with it the law of the scene store and the levels of
the lights (R130, R131, R135, R136, R149). -/
def Obligations.LightingLawsKept : Prop :=
  ∀ s t : State, step s = .next t → FixtureLaw s → FixtureLaw t ∧ (LightLaw s → LightLaw t)

/-- Every step keeps the law of the queues (R164, R165, R168, R169). -/
def Obligations.QueueLawKept : Prop := ∀ s t : State, step s = .next t → QueueLaw s → QueueLaw t

/-- R175, R179: every step keeps the law of the event unit and the law of the counters; and no step makes a counter less,
so that one at 65535 stays there with its overflow flag set, but for a power-on reset, a RESET_UNIT, and a READ_COUNTERS
of its set with clear. -/
def Obligations.EventAndCounterLawsKept : Prop :=
  ∀ s t : State, step s = .next t →
    (EventLaw s → EventLaw t) ∧ (CounterLaw s → CounterLaw t)
      ∧ (CounterLaw s → ∀ set : CounterSet,
          let clears (p : List Byte) : Prop :=
            match set with
            | .input => ∃ b, p = [0, b, 1]
            | .intake => ∃ b, p = [1, b, 1]
            | .chain c => p = [2, BitVec.ofNat 8 c.val, 1]
          s.pending.head? ≠ some .powerOnReset → s.pending.head? ≠ some .softReset →
            s.pending.head? ≠ some .tablesReset →
            ¬ (s.pending.head? = some .readCounters
                ∧ ∃ e, s.intake.queue.head? = some e ∧ e.code = 0x7B ∧ clears e.payload) →
            ∀ (k : Nat) (c : Counter), (countersOf s set)[k]? = some c →
              ∃ d, (countersOf t set)[k]? = some d ∧ c.value ≤ d.value
                ∧ (c.value = 65535 → d.value = 65535 ∧ d.overflow = true))

end
end

