-- ==== Sys2Proof/Laws/State.lean ====
section
/-! SUPPORT. One lemma per field for each named update of State, true by rfl, so that no later proof unfolds a record
update. -/

namespace Sys2Proof.Machine

/-! ## modifyPort -/

@[simp] theorem State.modifyPort_pins (s : State) (c : Fin 8) (f : ChainPort → ChainPort) :
    (s.modifyPort c f).pins = s.pins := rfl
@[simp] theorem State.modifyPort_link (s : State) (c : Fin 8) (f : ChainPort → ChainPort) :
    (s.modifyPort c f).link = s.link := rfl
@[simp] theorem State.modifyPort_store (s : State) (c : Fin 8) (f : ChainPort → ChainPort) :
    (s.modifyPort c f).store = s.store := rfl
@[simp] theorem State.modifyPort_timing (s : State) (c : Fin 8) (f : ChainPort → ChainPort) :
    (s.modifyPort c f).timing = s.timing := rfl
@[simp] theorem State.modifyPort_looks (s : State) (c : Fin 8) (f : ChainPort → ChainPort) :
    (s.modifyPort c f).looks = s.looks := rfl
@[simp] theorem State.modifyPort_comp (s : State) (c : Fin 8) (f : ChainPort → ChainPort) :
    (s.modifyPort c f).comp = s.comp := rfl
@[simp] theorem State.modifyPort_ports (s : State) (c : Fin 8) (f : ChainPort → ChainPort) :
    (s.modifyPort c f).ports = modifyAt s.ports c f := rfl
@[simp] theorem State.modifyPort_power (s : State) (c : Fin 8) (f : ChainPort → ChainPort) :
    (s.modifyPort c f).power = s.power := rfl
@[simp] theorem State.modifyPort_thermal (s : State) (c : Fin 8) (f : ChainPort → ChainPort) :
    (s.modifyPort c f).thermal = s.thermal := rfl
@[simp] theorem State.modifyPort_cues (s : State) (c : Fin 8) (f : ChainPort → ChainPort) :
    (s.modifyPort c f).cues = s.cues := rfl
@[simp] theorem State.modifyPort_lights (s : State) (c : Fin 8) (f : ChainPort → ChainPort) :
    (s.modifyPort c f).lights = s.lights := rfl
@[simp] theorem State.modifyPort_follow (s : State) (c : Fin 8) (f : ChainPort → ChainPort) :
    (s.modifyPort c f).follow = s.follow := rfl
@[simp] theorem State.modifyPort_intake (s : State) (c : Fin 8) (f : ChainPort → ChainPort) :
    (s.modifyPort c f).intake = s.intake := rfl
@[simp] theorem State.modifyPort_ret (s : State) (c : Fin 8) (f : ChainPort → ChainPort) :
    (s.modifyPort c f).ret = s.ret := rfl
@[simp] theorem State.modifyPort_events (s : State) (c : Fin 8) (f : ChainPort → ChainPort) :
    (s.modifyPort c f).events = s.events := rfl
@[simp] theorem State.modifyPort_out (s : State) (c : Fin 8) (f : ChainPort → ChainPort) :
    (s.modifyPort c f).out = s.out := rfl
@[simp] theorem State.modifyPort_freeIndex (s : State) (c : Fin 8) (f : ChainPort → ChainPort) :
    (s.modifyPort c f).freeIndex = s.freeIndex := rfl
@[simp] theorem State.modifyPort_pending (s : State) (c : Fin 8) (f : ChainPort → ChainPort) :
    (s.modifyPort c f).pending = s.pending := rfl

/-! ## modifyZone -/

@[simp] theorem State.modifyZone_pins (s : State) (z : Fin 16) (f : Zone → Zone) :
    (s.modifyZone z f).pins = s.pins := rfl
@[simp] theorem State.modifyZone_link (s : State) (z : Fin 16) (f : Zone → Zone) :
    (s.modifyZone z f).link = s.link := rfl
@[simp] theorem State.modifyZone_store (s : State) (z : Fin 16) (f : Zone → Zone) :
    (s.modifyZone z f).store = s.store := rfl
@[simp] theorem State.modifyZone_timing (s : State) (z : Fin 16) (f : Zone → Zone) :
    (s.modifyZone z f).timing = s.timing := rfl
@[simp] theorem State.modifyZone_looks (s : State) (z : Fin 16) (f : Zone → Zone) :
    (s.modifyZone z f).looks = s.looks := rfl
@[simp] theorem State.modifyZone_comp (s : State) (z : Fin 16) (f : Zone → Zone) :
    (s.modifyZone z f).comp = s.comp := rfl
@[simp] theorem State.modifyZone_ports (s : State) (z : Fin 16) (f : Zone → Zone) :
    (s.modifyZone z f).ports = s.ports := rfl
@[simp] theorem State.modifyZone_power (s : State) (z : Fin 16) (f : Zone → Zone) :
    (s.modifyZone z f).power = s.power := rfl
@[simp] theorem State.modifyZone_thermal (s : State) (z : Fin 16) (f : Zone → Zone) :
    (s.modifyZone z f).thermal = { s.thermal with zones := modifyAt s.thermal.zones z f } := rfl
@[simp] theorem State.modifyZone_cues (s : State) (z : Fin 16) (f : Zone → Zone) :
    (s.modifyZone z f).cues = s.cues := rfl
@[simp] theorem State.modifyZone_lights (s : State) (z : Fin 16) (f : Zone → Zone) :
    (s.modifyZone z f).lights = s.lights := rfl
@[simp] theorem State.modifyZone_follow (s : State) (z : Fin 16) (f : Zone → Zone) :
    (s.modifyZone z f).follow = s.follow := rfl
@[simp] theorem State.modifyZone_intake (s : State) (z : Fin 16) (f : Zone → Zone) :
    (s.modifyZone z f).intake = s.intake := rfl
@[simp] theorem State.modifyZone_ret (s : State) (z : Fin 16) (f : Zone → Zone) :
    (s.modifyZone z f).ret = s.ret := rfl
@[simp] theorem State.modifyZone_events (s : State) (z : Fin 16) (f : Zone → Zone) :
    (s.modifyZone z f).events = s.events := rfl
@[simp] theorem State.modifyZone_out (s : State) (z : Fin 16) (f : Zone → Zone) :
    (s.modifyZone z f).out = s.out := rfl
@[simp] theorem State.modifyZone_freeIndex (s : State) (z : Fin 16) (f : Zone → Zone) :
    (s.modifyZone z f).freeIndex = s.freeIndex := rfl
@[simp] theorem State.modifyZone_pending (s : State) (z : Fin 16) (f : Zone → Zone) :
    (s.modifyZone z f).pending = s.pending := rfl

/-! ## modifyLimiter -/

@[simp] theorem State.modifyLimiter_pins (s : State) (c : Fin 8) (f : Limiter → Limiter) :
    (s.modifyLimiter c f).pins = s.pins := rfl
@[simp] theorem State.modifyLimiter_link (s : State) (c : Fin 8) (f : Limiter → Limiter) :
    (s.modifyLimiter c f).link = s.link := rfl
@[simp] theorem State.modifyLimiter_store (s : State) (c : Fin 8) (f : Limiter → Limiter) :
    (s.modifyLimiter c f).store = s.store := rfl
@[simp] theorem State.modifyLimiter_timing (s : State) (c : Fin 8) (f : Limiter → Limiter) :
    (s.modifyLimiter c f).timing = s.timing := rfl
@[simp] theorem State.modifyLimiter_looks (s : State) (c : Fin 8) (f : Limiter → Limiter) :
    (s.modifyLimiter c f).looks = s.looks := rfl
@[simp] theorem State.modifyLimiter_comp (s : State) (c : Fin 8) (f : Limiter → Limiter) :
    (s.modifyLimiter c f).comp = s.comp := rfl
@[simp] theorem State.modifyLimiter_ports (s : State) (c : Fin 8) (f : Limiter → Limiter) :
    (s.modifyLimiter c f).ports = s.ports := rfl
@[simp] theorem State.modifyLimiter_power (s : State) (c : Fin 8) (f : Limiter → Limiter) :
    (s.modifyLimiter c f).power = { s.power with limiters := modifyAt s.power.limiters c f } := rfl
@[simp] theorem State.modifyLimiter_thermal (s : State) (c : Fin 8) (f : Limiter → Limiter) :
    (s.modifyLimiter c f).thermal = s.thermal := rfl
@[simp] theorem State.modifyLimiter_cues (s : State) (c : Fin 8) (f : Limiter → Limiter) :
    (s.modifyLimiter c f).cues = s.cues := rfl
@[simp] theorem State.modifyLimiter_lights (s : State) (c : Fin 8) (f : Limiter → Limiter) :
    (s.modifyLimiter c f).lights = s.lights := rfl
@[simp] theorem State.modifyLimiter_follow (s : State) (c : Fin 8) (f : Limiter → Limiter) :
    (s.modifyLimiter c f).follow = s.follow := rfl
@[simp] theorem State.modifyLimiter_intake (s : State) (c : Fin 8) (f : Limiter → Limiter) :
    (s.modifyLimiter c f).intake = s.intake := rfl
@[simp] theorem State.modifyLimiter_ret (s : State) (c : Fin 8) (f : Limiter → Limiter) :
    (s.modifyLimiter c f).ret = s.ret := rfl
@[simp] theorem State.modifyLimiter_events (s : State) (c : Fin 8) (f : Limiter → Limiter) :
    (s.modifyLimiter c f).events = s.events := rfl
@[simp] theorem State.modifyLimiter_out (s : State) (c : Fin 8) (f : Limiter → Limiter) :
    (s.modifyLimiter c f).out = s.out := rfl
@[simp] theorem State.modifyLimiter_freeIndex (s : State) (c : Fin 8) (f : Limiter → Limiter) :
    (s.modifyLimiter c f).freeIndex = s.freeIndex := rfl
@[simp] theorem State.modifyLimiter_pending (s : State) (c : Fin 8) (f : Limiter → Limiter) :
    (s.modifyLimiter c f).pending = s.pending := rfl

/-! ## modifyFixture -/

@[simp] theorem State.modifyFixture_pins (s : State) (x : Fin 96) (f : Fixture → Fixture) :
    (s.modifyFixture x f).pins = s.pins := rfl
@[simp] theorem State.modifyFixture_link (s : State) (x : Fin 96) (f : Fixture → Fixture) :
    (s.modifyFixture x f).link = s.link := rfl
@[simp] theorem State.modifyFixture_store (s : State) (x : Fin 96) (f : Fixture → Fixture) :
    (s.modifyFixture x f).store = s.store := rfl
@[simp] theorem State.modifyFixture_timing (s : State) (x : Fin 96) (f : Fixture → Fixture) :
    (s.modifyFixture x f).timing = s.timing := rfl
@[simp] theorem State.modifyFixture_looks (s : State) (x : Fin 96) (f : Fixture → Fixture) :
    (s.modifyFixture x f).looks = s.looks := rfl
@[simp] theorem State.modifyFixture_comp (s : State) (x : Fin 96) (f : Fixture → Fixture) :
    (s.modifyFixture x f).comp = s.comp := rfl
@[simp] theorem State.modifyFixture_ports (s : State) (x : Fin 96) (f : Fixture → Fixture) :
    (s.modifyFixture x f).ports = s.ports := rfl
@[simp] theorem State.modifyFixture_power (s : State) (x : Fin 96) (f : Fixture → Fixture) :
    (s.modifyFixture x f).power = s.power := rfl
@[simp] theorem State.modifyFixture_thermal (s : State) (x : Fin 96) (f : Fixture → Fixture) :
    (s.modifyFixture x f).thermal = s.thermal := rfl
@[simp] theorem State.modifyFixture_cues (s : State) (x : Fin 96) (f : Fixture → Fixture) :
    (s.modifyFixture x f).cues = s.cues := rfl
@[simp] theorem State.modifyFixture_lights (s : State) (x : Fin 96) (f : Fixture → Fixture) :
    (s.modifyFixture x f).lights = { s.lights with fixtures := modifyAt s.lights.fixtures x f } := rfl
@[simp] theorem State.modifyFixture_follow (s : State) (x : Fin 96) (f : Fixture → Fixture) :
    (s.modifyFixture x f).follow = s.follow := rfl
@[simp] theorem State.modifyFixture_intake (s : State) (x : Fin 96) (f : Fixture → Fixture) :
    (s.modifyFixture x f).intake = s.intake := rfl
@[simp] theorem State.modifyFixture_ret (s : State) (x : Fin 96) (f : Fixture → Fixture) :
    (s.modifyFixture x f).ret = s.ret := rfl
@[simp] theorem State.modifyFixture_events (s : State) (x : Fin 96) (f : Fixture → Fixture) :
    (s.modifyFixture x f).events = s.events := rfl
@[simp] theorem State.modifyFixture_out (s : State) (x : Fin 96) (f : Fixture → Fixture) :
    (s.modifyFixture x f).out = s.out := rfl
@[simp] theorem State.modifyFixture_freeIndex (s : State) (x : Fin 96) (f : Fixture → Fixture) :
    (s.modifyFixture x f).freeIndex = s.freeIndex := rfl
@[simp] theorem State.modifyFixture_pending (s : State) (x : Fin 96) (f : Fixture → Fixture) :
    (s.modifyFixture x f).pending = s.pending := rfl

/-! ## setFollowValue -/

@[simp] theorem State.setFollowValue_pins (s : State) (x : Fin 96) (v : Rgb) :
    (s.setFollowValue x v).pins = s.pins := rfl
@[simp] theorem State.setFollowValue_link (s : State) (x : Fin 96) (v : Rgb) :
    (s.setFollowValue x v).link = s.link := rfl
@[simp] theorem State.setFollowValue_store (s : State) (x : Fin 96) (v : Rgb) :
    (s.setFollowValue x v).store = s.store := rfl
@[simp] theorem State.setFollowValue_timing (s : State) (x : Fin 96) (v : Rgb) :
    (s.setFollowValue x v).timing = s.timing := rfl
@[simp] theorem State.setFollowValue_looks (s : State) (x : Fin 96) (v : Rgb) :
    (s.setFollowValue x v).looks = s.looks := rfl
@[simp] theorem State.setFollowValue_comp (s : State) (x : Fin 96) (v : Rgb) :
    (s.setFollowValue x v).comp = s.comp := rfl
@[simp] theorem State.setFollowValue_ports (s : State) (x : Fin 96) (v : Rgb) :
    (s.setFollowValue x v).ports = s.ports := rfl
@[simp] theorem State.setFollowValue_power (s : State) (x : Fin 96) (v : Rgb) :
    (s.setFollowValue x v).power = s.power := rfl
@[simp] theorem State.setFollowValue_thermal (s : State) (x : Fin 96) (v : Rgb) :
    (s.setFollowValue x v).thermal = s.thermal := rfl
@[simp] theorem State.setFollowValue_cues (s : State) (x : Fin 96) (v : Rgb) :
    (s.setFollowValue x v).cues = s.cues := rfl
@[simp] theorem State.setFollowValue_lights (s : State) (x : Fin 96) (v : Rgb) :
    (s.setFollowValue x v).lights = s.lights := rfl
@[simp] theorem State.setFollowValue_follow (s : State) (x : Fin 96) (v : Rgb) :
    (s.setFollowValue x v).follow = { s.follow with values := s.follow.values.set x v } := rfl
@[simp] theorem State.setFollowValue_intake (s : State) (x : Fin 96) (v : Rgb) :
    (s.setFollowValue x v).intake = s.intake := rfl
@[simp] theorem State.setFollowValue_ret (s : State) (x : Fin 96) (v : Rgb) :
    (s.setFollowValue x v).ret = s.ret := rfl
@[simp] theorem State.setFollowValue_events (s : State) (x : Fin 96) (v : Rgb) :
    (s.setFollowValue x v).events = s.events := rfl
@[simp] theorem State.setFollowValue_out (s : State) (x : Fin 96) (v : Rgb) :
    (s.setFollowValue x v).out = s.out := rfl
@[simp] theorem State.setFollowValue_freeIndex (s : State) (x : Fin 96) (v : Rgb) :
    (s.setFollowValue x v).freeIndex = s.freeIndex := rfl
@[simp] theorem State.setFollowValue_pending (s : State) (x : Fin 96) (v : Rgb) :
    (s.setFollowValue x v).pending = s.pending := rfl

/-! ## setScene -/

@[simp] theorem State.setScene_pins (s : State) (x : Fin 64) (sc : Scene) :
    (s.setScene x sc).pins = s.pins := rfl
@[simp] theorem State.setScene_link (s : State) (x : Fin 64) (sc : Scene) :
    (s.setScene x sc).link = s.link := rfl
@[simp] theorem State.setScene_store (s : State) (x : Fin 64) (sc : Scene) :
    (s.setScene x sc).store = s.store := rfl
@[simp] theorem State.setScene_timing (s : State) (x : Fin 64) (sc : Scene) :
    (s.setScene x sc).timing = s.timing := rfl
@[simp] theorem State.setScene_looks (s : State) (x : Fin 64) (sc : Scene) :
    (s.setScene x sc).looks = s.looks := rfl
@[simp] theorem State.setScene_comp (s : State) (x : Fin 64) (sc : Scene) :
    (s.setScene x sc).comp = s.comp := rfl
@[simp] theorem State.setScene_ports (s : State) (x : Fin 64) (sc : Scene) :
    (s.setScene x sc).ports = s.ports := rfl
@[simp] theorem State.setScene_power (s : State) (x : Fin 64) (sc : Scene) :
    (s.setScene x sc).power = s.power := rfl
@[simp] theorem State.setScene_thermal (s : State) (x : Fin 64) (sc : Scene) :
    (s.setScene x sc).thermal = s.thermal := rfl
@[simp] theorem State.setScene_cues (s : State) (x : Fin 64) (sc : Scene) :
    (s.setScene x sc).cues = s.cues := rfl
@[simp] theorem State.setScene_lights (s : State) (x : Fin 64) (sc : Scene) :
    (s.setScene x sc).lights = { s.lights with scenes := s.lights.scenes.set x sc } := rfl
@[simp] theorem State.setScene_follow (s : State) (x : Fin 64) (sc : Scene) :
    (s.setScene x sc).follow = s.follow := rfl
@[simp] theorem State.setScene_intake (s : State) (x : Fin 64) (sc : Scene) :
    (s.setScene x sc).intake = s.intake := rfl
@[simp] theorem State.setScene_ret (s : State) (x : Fin 64) (sc : Scene) :
    (s.setScene x sc).ret = s.ret := rfl
@[simp] theorem State.setScene_events (s : State) (x : Fin 64) (sc : Scene) :
    (s.setScene x sc).events = s.events := rfl
@[simp] theorem State.setScene_out (s : State) (x : Fin 64) (sc : Scene) :
    (s.setScene x sc).out = s.out := rfl
@[simp] theorem State.setScene_freeIndex (s : State) (x : Fin 64) (sc : Scene) :
    (s.setScene x sc).freeIndex = s.freeIndex := rfl
@[simp] theorem State.setScene_pending (s : State) (x : Fin 64) (sc : Scene) :
    (s.setScene x sc).pending = s.pending := rfl

/-! ## passOn -/

@[simp] theorem State.passOn_pins (s : State) (packet : List Byte) :
    (s.passOn packet).pins = s.pins := rfl
@[simp] theorem State.passOn_link (s : State) (packet : List Byte) :
    (s.passOn packet).link = s.link := rfl
@[simp] theorem State.passOn_store (s : State) (packet : List Byte) :
    (s.passOn packet).store = s.store := rfl
@[simp] theorem State.passOn_timing (s : State) (packet : List Byte) :
    (s.passOn packet).timing = s.timing := rfl
@[simp] theorem State.passOn_looks (s : State) (packet : List Byte) :
    (s.passOn packet).looks = s.looks := rfl
@[simp] theorem State.passOn_comp (s : State) (packet : List Byte) :
    (s.passOn packet).comp = s.comp := rfl
@[simp] theorem State.passOn_ports (s : State) (packet : List Byte) :
    (s.passOn packet).ports = s.ports := rfl
@[simp] theorem State.passOn_power (s : State) (packet : List Byte) :
    (s.passOn packet).power = s.power := rfl
@[simp] theorem State.passOn_thermal (s : State) (packet : List Byte) :
    (s.passOn packet).thermal = s.thermal := rfl
@[simp] theorem State.passOn_cues (s : State) (packet : List Byte) :
    (s.passOn packet).cues = s.cues := rfl
@[simp] theorem State.passOn_lights (s : State) (packet : List Byte) :
    (s.passOn packet).lights = s.lights := rfl
@[simp] theorem State.passOn_follow (s : State) (packet : List Byte) :
    (s.passOn packet).follow = s.follow := rfl
@[simp] theorem State.passOn_intake (s : State) (packet : List Byte) :
    (s.passOn packet).intake = s.intake := rfl
@[simp] theorem State.passOn_ret (s : State) (packet : List Byte) :
    (s.passOn packet).ret = s.ret := rfl
@[simp] theorem State.passOn_events (s : State) (packet : List Byte) :
    (s.passOn packet).events = s.events := rfl
@[simp] theorem State.passOn_out (s : State) (packet : List Byte) :
    (s.passOn packet).out = { s.out with through := s.out.through ++ [packet] } := rfl
@[simp] theorem State.passOn_freeIndex (s : State) (packet : List Byte) :
    (s.passOn packet).freeIndex = s.freeIndex := rfl
@[simp] theorem State.passOn_pending (s : State) (packet : List Byte) :
    (s.passOn packet).pending = s.pending := rfl

/-! ## setExecutor -/

@[simp] theorem State.setExecutor_pins (s : State) (x : ExecutorState) :
    (s.setExecutor x).pins = s.pins := rfl
@[simp] theorem State.setExecutor_link (s : State) (x : ExecutorState) :
    (s.setExecutor x).link = s.link := rfl
@[simp] theorem State.setExecutor_store (s : State) (x : ExecutorState) :
    (s.setExecutor x).store = s.store := rfl
@[simp] theorem State.setExecutor_timing (s : State) (x : ExecutorState) :
    (s.setExecutor x).timing = s.timing := rfl
@[simp] theorem State.setExecutor_looks (s : State) (x : ExecutorState) :
    (s.setExecutor x).looks = s.looks := rfl
@[simp] theorem State.setExecutor_comp (s : State) (x : ExecutorState) :
    (s.setExecutor x).comp = s.comp := rfl
@[simp] theorem State.setExecutor_ports (s : State) (x : ExecutorState) :
    (s.setExecutor x).ports = s.ports := rfl
@[simp] theorem State.setExecutor_power (s : State) (x : ExecutorState) :
    (s.setExecutor x).power = s.power := rfl
@[simp] theorem State.setExecutor_thermal (s : State) (x : ExecutorState) :
    (s.setExecutor x).thermal = s.thermal := rfl
@[simp] theorem State.setExecutor_cues (s : State) (x : ExecutorState) :
    (s.setExecutor x).cues = s.cues := rfl
@[simp] theorem State.setExecutor_lights (s : State) (x : ExecutorState) :
    (s.setExecutor x).lights = s.lights := rfl
@[simp] theorem State.setExecutor_follow (s : State) (x : ExecutorState) :
    (s.setExecutor x).follow = s.follow := rfl
@[simp] theorem State.setExecutor_intake (s : State) (x : ExecutorState) :
    (s.setExecutor x).intake = { s.intake with executor := x } := rfl
@[simp] theorem State.setExecutor_ret (s : State) (x : ExecutorState) :
    (s.setExecutor x).ret = s.ret := rfl
@[simp] theorem State.setExecutor_events (s : State) (x : ExecutorState) :
    (s.setExecutor x).events = s.events := rfl
@[simp] theorem State.setExecutor_out (s : State) (x : ExecutorState) :
    (s.setExecutor x).out = s.out := rfl
@[simp] theorem State.setExecutor_freeIndex (s : State) (x : ExecutorState) :
    (s.setExecutor x).freeIndex = s.freeIndex := rfl
@[simp] theorem State.setExecutor_pending (s : State) (x : ExecutorState) :
    (s.setExecutor x).pending = s.pending := rfl

/-! ## setEvents -/

@[simp] theorem State.setEvents_pins (s : State) (u : EventUnit) :
    (s.setEvents u).pins = s.pins := rfl
@[simp] theorem State.setEvents_link (s : State) (u : EventUnit) :
    (s.setEvents u).link = s.link := rfl
@[simp] theorem State.setEvents_store (s : State) (u : EventUnit) :
    (s.setEvents u).store = s.store := rfl
@[simp] theorem State.setEvents_timing (s : State) (u : EventUnit) :
    (s.setEvents u).timing = s.timing := rfl
@[simp] theorem State.setEvents_looks (s : State) (u : EventUnit) :
    (s.setEvents u).looks = s.looks := rfl
@[simp] theorem State.setEvents_comp (s : State) (u : EventUnit) :
    (s.setEvents u).comp = s.comp := rfl
@[simp] theorem State.setEvents_ports (s : State) (u : EventUnit) :
    (s.setEvents u).ports = s.ports := rfl
@[simp] theorem State.setEvents_power (s : State) (u : EventUnit) :
    (s.setEvents u).power = s.power := rfl
@[simp] theorem State.setEvents_thermal (s : State) (u : EventUnit) :
    (s.setEvents u).thermal = s.thermal := rfl
@[simp] theorem State.setEvents_cues (s : State) (u : EventUnit) :
    (s.setEvents u).cues = s.cues := rfl
@[simp] theorem State.setEvents_lights (s : State) (u : EventUnit) :
    (s.setEvents u).lights = s.lights := rfl
@[simp] theorem State.setEvents_follow (s : State) (u : EventUnit) :
    (s.setEvents u).follow = s.follow := rfl
@[simp] theorem State.setEvents_intake (s : State) (u : EventUnit) :
    (s.setEvents u).intake = s.intake := rfl
@[simp] theorem State.setEvents_ret (s : State) (u : EventUnit) :
    (s.setEvents u).ret = s.ret := rfl
@[simp] theorem State.setEvents_events (s : State) (u : EventUnit) :
    (s.setEvents u).events = u := rfl
@[simp] theorem State.setEvents_out (s : State) (u : EventUnit) :
    (s.setEvents u).out = s.out := rfl
@[simp] theorem State.setEvents_freeIndex (s : State) (u : EventUnit) :
    (s.setEvents u).freeIndex = s.freeIndex := rfl
@[simp] theorem State.setEvents_pending (s : State) (u : EventUnit) :
    (s.setEvents u).pending = s.pending := rfl

/-! ## setPending -/

@[simp] theorem State.setPending_pins (s : State) (rows : List Instr) :
    (s.setPending rows).pins = s.pins := rfl
@[simp] theorem State.setPending_link (s : State) (rows : List Instr) :
    (s.setPending rows).link = s.link := rfl
@[simp] theorem State.setPending_store (s : State) (rows : List Instr) :
    (s.setPending rows).store = s.store := rfl
@[simp] theorem State.setPending_timing (s : State) (rows : List Instr) :
    (s.setPending rows).timing = s.timing := rfl
@[simp] theorem State.setPending_looks (s : State) (rows : List Instr) :
    (s.setPending rows).looks = s.looks := rfl
@[simp] theorem State.setPending_comp (s : State) (rows : List Instr) :
    (s.setPending rows).comp = s.comp := rfl
@[simp] theorem State.setPending_ports (s : State) (rows : List Instr) :
    (s.setPending rows).ports = s.ports := rfl
@[simp] theorem State.setPending_power (s : State) (rows : List Instr) :
    (s.setPending rows).power = s.power := rfl
@[simp] theorem State.setPending_thermal (s : State) (rows : List Instr) :
    (s.setPending rows).thermal = s.thermal := rfl
@[simp] theorem State.setPending_cues (s : State) (rows : List Instr) :
    (s.setPending rows).cues = s.cues := rfl
@[simp] theorem State.setPending_lights (s : State) (rows : List Instr) :
    (s.setPending rows).lights = s.lights := rfl
@[simp] theorem State.setPending_follow (s : State) (rows : List Instr) :
    (s.setPending rows).follow = s.follow := rfl
@[simp] theorem State.setPending_intake (s : State) (rows : List Instr) :
    (s.setPending rows).intake = s.intake := rfl
@[simp] theorem State.setPending_ret (s : State) (rows : List Instr) :
    (s.setPending rows).ret = s.ret := rfl
@[simp] theorem State.setPending_events (s : State) (rows : List Instr) :
    (s.setPending rows).events = s.events := rfl
@[simp] theorem State.setPending_out (s : State) (rows : List Instr) :
    (s.setPending rows).out = s.out := rfl
@[simp] theorem State.setPending_freeIndex (s : State) (rows : List Instr) :
    (s.setPending rows).freeIndex = s.freeIndex := rfl
@[simp] theorem State.setPending_pending (s : State) (rows : List Instr) :
    (s.setPending rows).pending = rows := rfl

/-! ## The banks of the look store -/

@[simp] theorem LookStore.setStaged_active (l : LookStore) (look : Look) : (l.setStaged look).active = l.active := by
  unfold LookStore.setStaged LookStore.active; split <;> simp_all

@[simp] theorem LookStore.setStaged_stagedLook (l : LookStore) (look : Look) : (l.setStaged look).stagedLook = look := by
  unfold LookStore.setStaged LookStore.stagedLook; split <;> simp_all

@[simp] theorem LookStore.setStaged_types (l : LookStore) (look : Look) : (l.setStaged look).types = l.types := by
  unfold LookStore.setStaged; split <;> rfl

@[simp] theorem LookStore.setStaged_result (l : LookStore) (look : Look) : (l.setStaged look).result = l.result := by
  unfold LookStore.setStaged; split <;> rfl

@[simp] theorem LookStore.setStaged_checkEnds (l : LookStore) (look : Look) :
    (l.setStaged look).checkEnds = l.checkEnds := by
  unfold LookStore.setStaged; split <;> rfl

@[simp] theorem LookStore.setStaged_staged (l : LookStore) (look : Look) : (l.setStaged look).staged = l.staged := by
  unfold LookStore.setStaged; split <;> rfl

end Sys2Proof.Machine
end

