-- ==== Sys2Proof/Laws/Tables.lean ====
section
/-! SUPPORT. What the operations on tables, counters and ramps do, entry by entry. -/

namespace Sys2Proof.Machine

@[simp] theorem modifyAt_getElem {α : Type} {n : Nat} (v : Vector α n) (i : Fin n) (f : α → α) (j : Nat) (h : j < n) :
    (modifyAt v i f)[j] = if j = i.val then f v[i] else v[j] := by
  simp only [modifyAt, Vector.getElem_set]
  split
  · next e => rw [if_pos e.symm]
  · next e => rw [if_neg fun h' => e h'.symm]

@[simp] theorem mapAll_getElem {α β : Type} {n : Nat} (f : α → β) (v : Vector α n) (j : Nat) (h : j < n) :
    (mapAll f v)[j] = f v[j] := by
  simp [mapAll]

@[simp] theorem writeRun_getElem {α : Type} {n : Nat} (v : Vector α n) (first : Nat) (xs : List α) (j : Nat) (h : j < n) :
    (writeRun v first xs)[j] = if first ≤ j then (xs[j - first]?).getD v[j] else v[j] := by
  simp [writeRun]

theorem placesWhere_eq_nil {α : Type} {n : Nat} (p : α → Bool) (v : Vector α n) :
    placesWhere p v = [] ↔ ∀ i : Fin n, p v[i] = false := by
  simp [placesWhere]

/-- R179: an increment keeps the law of the counters. -/
theorem CounterOk.add {c : Counter} (h : CounterOk c) (n : Nat) : CounterOk (c.add n) := by
  obtain ⟨h1, h2⟩ := h
  rcases le_or_gt 65535 (c.value + n) with hn | hn
  · simp [CounterOk, Counter.add, Config.counterMax, hn]
  · have hv : ¬ c.overflow = true := fun h => by have := h2.mp h; omega
    simp only [CounterOk, Counter.add, Config.counterMax, Bool.or_eq_true, decide_eq_true_eq]
    refine ⟨by omega, ?_⟩
    constructor
    · rintro (h | h)
      · exact absurd h hv
      · omega
    · intro h; omega

theorem CounterOk.inc {c : Counter} (h : CounterOk c) : CounterOk c.inc := h.add 1

theorem CounterOk.zero : CounterOk Counter.zero := by simp [CounterOk, Counter.zero]

/-- R87, R141: a value moved toward a target stays within a bound that holds its start and its target. -/
theorem interpolate_le {start target j n b : Nat} (hs : start ≤ b) (ht : target ≤ b) (hj : j ≤ n) :
    interpolate start target j n ≤ b := by
  have key : Int.tdiv (((target : Int) - start) * j) n ≤ (b : Int) - start := by
    rcases Nat.eq_zero_or_pos n with hn | hn
    · subst hn; simp; omega
    · rcases le_total start target with h | h
      · have e : ((target : Int) - start) * j = (((target - start) * j : Nat) : Int) := by push_cast [Nat.cast_sub h]; ring
        rw [e, ← Int.ofNat_tdiv]
        have : (target - start) * j / n ≤ target - start :=
          Nat.div_le_of_le_mul (by rw [Nat.mul_comm n]; exact Nat.mul_le_mul_left _ hj)
        omega
      · have e : ((target : Int) - start) * j = -(((start - target) * j : Nat) : Int) := by push_cast [Nat.cast_sub h]; ring
        rw [e, Int.neg_tdiv, ← Int.ofNat_tdiv]
        generalize (start - target) * j / n = q
        omega
  unfold interpolate
  omega

end Sys2Proof.Machine
end

