-- ==== Sys2Proof/Laws/Chains.lean ====
section
/-! SUPPORT. What a chain leaving RUN by a command changes, said once (R49, R58, R82, R93), and what a port in PROBE does
at a frame start (R50, R60). -/

namespace Sys2Proof.Machine

/-- R50, R60, Table 3-4: a port in PROBE opens its window and sends a probe, unless it was enabled since the last frame
event. -/
theorem frameStart_probe {p : ChainPort} (h : p.state = .probe) :
    (p.newlyEnabled = false ∧ p.probes = true ∧ p.frameStart = { p with windowOpen := true })
      ∨ (p.newlyEnabled = true ∧ p.probes = false ∧ p.frameStart = { p with newlyEnabled := false }) := by
  cases hn : p.newlyEnabled <;> simp [ChainPort.frameStart, ChainPort.probes, h, hn]

@[simp] theorem leaveRun_ports (c : Fin 8) (s : State) : (leaveRun c s).ports = s.ports := by
  unfold leaveRun dropLimiter abandonLines; split <;> (try split) <;> rfl

/-- R82: only the power block, what the ports have sent and the index of the free values can change. -/
theorem leaveRun_frame (c : Fin 8) (s : State) :
    leaveRun c s =
      { s with power := (leaveRun c s).power, out := (leaveRun c s).out, freeIndex := (leaveRun c s).freeIndex } := by
  unfold leaveRun dropLimiter abandonLines; split <;> (try split) <;> rfl

/-- R93: what becomes of the limiters. -/
theorem leaveRun_power (c : Fin 8) (s : State) :
    (leaveRun c s).power.master = s.power.master ∧ (leaveRun c s).power.ramp = s.power.ramp
      ∧ (∀ d : Fin 8, d ≠ c → (leaveRun c s).power.limiters[d] = s.power.limiters[d])
      ∧ (s.ports[c].state = .run →
          (leaveRun c s).power.limiters[c].scale = 0 ∧ (leaveRun c s).power.limiters[c].measured = false)
      ∧ (s.ports[c].state ≠ .run → leaveRun c s = s) := by
  have hne : ∀ d : Fin 8, d ≠ c → d.val ≠ c.val := fun d hd h => hd (Fin.ext h)
  unfold leaveRun dropLimiter abandonLines
  split
  · next h =>
    split <;> exact ⟨rfl, rfl, fun d hd => by simp [keepSent, hne d hd], fun _ => by simp, fun hh => absurd h hh⟩
  · next h => exact ⟨rfl, rfl, fun _ _ => rfl, fun hh => absurd hh h, fun _ => rfl⟩

/-- R76, R82: of a frame in progress a chain that leaves RUN keeps what it has sent: for some number n of pixels, the
lines whole within them and their demand. -/
theorem leaveRun_sent (c : Fin 8) (s : State) (hr : s.ports[c].state = .run) (ha : s.timing.phase = .active) :
    ∃ n, (leaveRun c s).out.chains[c]
          = s.out.chains[c].take (linesWithin n (lineDemands s.comp s.store.pages c s.ports[c].roster))
      ∧ (leaveRun c s).power.limiters[c].acc = demandWithin n (lineDemands s.comp s.store.pages c s.ports[c].roster) :=
  ⟨Config.pixelsSent s.freeIndex, by
    rw [leaveRun, if_pos hr, if_pos ha]
    simp [dropLimiter, abandonLines, keepSent]⟩

end Sys2Proof.Machine
end

