-- ==== Sys2Proof/Laws/Frames.lean ====
section
/-! SUPPORT. What the shared operations of the return lane and the event unit leave alone: one lemma per operation and
block. Raising an event, placing a packet and answering a command touch the event unit, the return merger, the
executor state and the record of what was sent, and nothing else. -/

namespace Sys2Proof.Machine

/-! ## lookIntake -/

@[simp] theorem lookIntake_pins (s : State) : (lookIntake s).pins = s.pins := by
  unfold lookIntake; split <;> rfl
@[simp] theorem lookIntake_link (s : State) : (lookIntake s).link = s.link := by
  unfold lookIntake; split <;> rfl
@[simp] theorem lookIntake_store (s : State) : (lookIntake s).store = s.store := by
  unfold lookIntake; split <;> rfl
@[simp] theorem lookIntake_timing (s : State) : (lookIntake s).timing = s.timing := by
  unfold lookIntake; split <;> rfl
@[simp] theorem lookIntake_looks (s : State) : (lookIntake s).looks = s.looks := by
  unfold lookIntake; split <;> rfl
@[simp] theorem lookIntake_comp (s : State) : (lookIntake s).comp = s.comp := by
  unfold lookIntake; split <;> rfl
@[simp] theorem lookIntake_ports (s : State) : (lookIntake s).ports = s.ports := by
  unfold lookIntake; split <;> rfl
@[simp] theorem lookIntake_power (s : State) : (lookIntake s).power = s.power := by
  unfold lookIntake; split <;> rfl
@[simp] theorem lookIntake_thermal (s : State) : (lookIntake s).thermal = s.thermal := by
  unfold lookIntake; split <;> rfl
@[simp] theorem lookIntake_cues (s : State) : (lookIntake s).cues = s.cues := by
  unfold lookIntake; split <;> rfl
@[simp] theorem lookIntake_lights (s : State) : (lookIntake s).lights = s.lights := by
  unfold lookIntake; split <;> rfl
@[simp] theorem lookIntake_follow (s : State) : (lookIntake s).follow = s.follow := by
  unfold lookIntake; split <;> rfl
@[simp] theorem lookIntake_ret (s : State) : (lookIntake s).ret = s.ret := by
  unfold lookIntake; split <;> rfl
@[simp] theorem lookIntake_events (s : State) : (lookIntake s).events = s.events := by
  unfold lookIntake; split <;> rfl
@[simp] theorem lookIntake_out (s : State) : (lookIntake s).out = s.out := by
  unfold lookIntake; split <;> rfl
@[simp] theorem lookIntake_freeIndex (s : State) : (lookIntake s).freeIndex = s.freeIndex := by
  unfold lookIntake; split <;> rfl
@[simp] theorem lookIntake_pending (s : State) : (lookIntake s).pending = s.pending := by
  unfold lookIntake; split <;> rfl

@[simp] theorem lookIntake_queue (s : State) : (lookIntake s).intake.queue = s.intake.queue := by
  unfold lookIntake; split <;> rfl

/-! ## startSend -/

@[simp] theorem startSend_pins (s : State) : (startSend s).pins = s.pins := by
  unfold startSend; split <;> (try split) <;> rfl
@[simp] theorem startSend_link (s : State) : (startSend s).link = s.link := by
  unfold startSend; split <;> (try split) <;> rfl
@[simp] theorem startSend_store (s : State) : (startSend s).store = s.store := by
  unfold startSend; split <;> (try split) <;> rfl
@[simp] theorem startSend_timing (s : State) : (startSend s).timing = s.timing := by
  unfold startSend; split <;> (try split) <;> rfl
@[simp] theorem startSend_looks (s : State) : (startSend s).looks = s.looks := by
  unfold startSend; split <;> (try split) <;> rfl
@[simp] theorem startSend_comp (s : State) : (startSend s).comp = s.comp := by
  unfold startSend; split <;> (try split) <;> rfl
@[simp] theorem startSend_ports (s : State) : (startSend s).ports = s.ports := by
  unfold startSend; split <;> (try split) <;> rfl
@[simp] theorem startSend_power (s : State) : (startSend s).power = s.power := by
  unfold startSend; split <;> (try split) <;> rfl
@[simp] theorem startSend_thermal (s : State) : (startSend s).thermal = s.thermal := by
  unfold startSend; split <;> (try split) <;> rfl
@[simp] theorem startSend_cues (s : State) : (startSend s).cues = s.cues := by
  unfold startSend; split <;> (try split) <;> rfl
@[simp] theorem startSend_lights (s : State) : (startSend s).lights = s.lights := by
  unfold startSend; split <;> (try split) <;> rfl
@[simp] theorem startSend_follow (s : State) : (startSend s).follow = s.follow := by
  unfold startSend; split <;> (try split) <;> rfl
@[simp] theorem startSend_intake (s : State) : (startSend s).intake = s.intake := by
  unfold startSend; split <;> (try split) <;> rfl
@[simp] theorem startSend_events (s : State) : (startSend s).events = s.events := by
  unfold startSend; split <;> (try split) <;> rfl
@[simp] theorem startSend_freeIndex (s : State) : (startSend s).freeIndex = s.freeIndex := by
  unfold startSend; split <;> (try split) <;> rfl
@[simp] theorem startSend_pending (s : State) : (startSend s).pending = s.pending := by
  unfold startSend; split <;> (try split) <;> rfl

/-! ## placeOwn -/

@[simp] theorem placeOwn_pins (p : ReturnPacket) (s : State) : (placeOwn p s).pins = s.pins := by
  simp [placeOwn]
@[simp] theorem placeOwn_link (p : ReturnPacket) (s : State) : (placeOwn p s).link = s.link := by
  simp [placeOwn]
@[simp] theorem placeOwn_store (p : ReturnPacket) (s : State) : (placeOwn p s).store = s.store := by
  simp [placeOwn]
@[simp] theorem placeOwn_timing (p : ReturnPacket) (s : State) : (placeOwn p s).timing = s.timing := by
  simp [placeOwn]
@[simp] theorem placeOwn_looks (p : ReturnPacket) (s : State) : (placeOwn p s).looks = s.looks := by
  simp [placeOwn]
@[simp] theorem placeOwn_comp (p : ReturnPacket) (s : State) : (placeOwn p s).comp = s.comp := by
  simp [placeOwn]
@[simp] theorem placeOwn_ports (p : ReturnPacket) (s : State) : (placeOwn p s).ports = s.ports := by
  simp [placeOwn]
@[simp] theorem placeOwn_power (p : ReturnPacket) (s : State) : (placeOwn p s).power = s.power := by
  simp [placeOwn]
@[simp] theorem placeOwn_thermal (p : ReturnPacket) (s : State) : (placeOwn p s).thermal = s.thermal := by
  simp [placeOwn]
@[simp] theorem placeOwn_cues (p : ReturnPacket) (s : State) : (placeOwn p s).cues = s.cues := by
  simp [placeOwn]
@[simp] theorem placeOwn_lights (p : ReturnPacket) (s : State) : (placeOwn p s).lights = s.lights := by
  simp [placeOwn]
@[simp] theorem placeOwn_follow (p : ReturnPacket) (s : State) : (placeOwn p s).follow = s.follow := by
  simp [placeOwn]
@[simp] theorem placeOwn_events (p : ReturnPacket) (s : State) : (placeOwn p s).events = s.events := by
  simp [placeOwn]
@[simp] theorem placeOwn_freeIndex (p : ReturnPacket) (s : State) : (placeOwn p s).freeIndex = s.freeIndex := by
  simp [placeOwn]
@[simp] theorem placeOwn_pending (p : ReturnPacket) (s : State) : (placeOwn p s).pending = s.pending := by
  simp [placeOwn]

@[simp] theorem placeOwn_queue (p : ReturnPacket) (s : State) : (placeOwn p s).intake.queue = s.intake.queue := by
  simp [placeOwn]

/-! ## queueNotice -/

@[simp] theorem queueNotice_pins (s : State) : (queueNotice s).pins = s.pins := by
  simp [queueNotice]
@[simp] theorem queueNotice_link (s : State) : (queueNotice s).link = s.link := by
  simp [queueNotice]
@[simp] theorem queueNotice_store (s : State) : (queueNotice s).store = s.store := by
  simp [queueNotice]
@[simp] theorem queueNotice_timing (s : State) : (queueNotice s).timing = s.timing := by
  simp [queueNotice]
@[simp] theorem queueNotice_looks (s : State) : (queueNotice s).looks = s.looks := by
  simp [queueNotice]
@[simp] theorem queueNotice_comp (s : State) : (queueNotice s).comp = s.comp := by
  simp [queueNotice]
@[simp] theorem queueNotice_ports (s : State) : (queueNotice s).ports = s.ports := by
  simp [queueNotice]
@[simp] theorem queueNotice_power (s : State) : (queueNotice s).power = s.power := by
  simp [queueNotice]
@[simp] theorem queueNotice_thermal (s : State) : (queueNotice s).thermal = s.thermal := by
  simp [queueNotice]
@[simp] theorem queueNotice_cues (s : State) : (queueNotice s).cues = s.cues := by
  simp [queueNotice]
@[simp] theorem queueNotice_lights (s : State) : (queueNotice s).lights = s.lights := by
  simp [queueNotice]
@[simp] theorem queueNotice_follow (s : State) : (queueNotice s).follow = s.follow := by
  simp [queueNotice]
@[simp] theorem queueNotice_freeIndex (s : State) : (queueNotice s).freeIndex = s.freeIndex := by
  simp [queueNotice]
@[simp] theorem queueNotice_pending (s : State) : (queueNotice s).pending = s.pending := by
  simp [queueNotice]

/-! ## tryNotice -/

@[simp] theorem tryNotice_pins (s : State) : (tryNotice s).pins = s.pins := by
  unfold tryNotice; split <;> simp
@[simp] theorem tryNotice_link (s : State) : (tryNotice s).link = s.link := by
  unfold tryNotice; split <;> simp
@[simp] theorem tryNotice_store (s : State) : (tryNotice s).store = s.store := by
  unfold tryNotice; split <;> simp
@[simp] theorem tryNotice_timing (s : State) : (tryNotice s).timing = s.timing := by
  unfold tryNotice; split <;> simp
@[simp] theorem tryNotice_looks (s : State) : (tryNotice s).looks = s.looks := by
  unfold tryNotice; split <;> simp
@[simp] theorem tryNotice_comp (s : State) : (tryNotice s).comp = s.comp := by
  unfold tryNotice; split <;> simp
@[simp] theorem tryNotice_ports (s : State) : (tryNotice s).ports = s.ports := by
  unfold tryNotice; split <;> simp
@[simp] theorem tryNotice_power (s : State) : (tryNotice s).power = s.power := by
  unfold tryNotice; split <;> simp
@[simp] theorem tryNotice_thermal (s : State) : (tryNotice s).thermal = s.thermal := by
  unfold tryNotice; split <;> simp
@[simp] theorem tryNotice_cues (s : State) : (tryNotice s).cues = s.cues := by
  unfold tryNotice; split <;> simp
@[simp] theorem tryNotice_lights (s : State) : (tryNotice s).lights = s.lights := by
  unfold tryNotice; split <;> simp
@[simp] theorem tryNotice_follow (s : State) : (tryNotice s).follow = s.follow := by
  unfold tryNotice; split <;> simp
@[simp] theorem tryNotice_freeIndex (s : State) : (tryNotice s).freeIndex = s.freeIndex := by
  unfold tryNotice; split <;> simp
@[simp] theorem tryNotice_pending (s : State) : (tryNotice s).pending = s.pending := by
  unfold tryNotice; split <;> simp

/-! ## dueTest -/

@[simp] theorem dueTest_pins (s : State) : (dueTest s).pins = s.pins := by
  simp [dueTest]
@[simp] theorem dueTest_link (s : State) : (dueTest s).link = s.link := by
  simp [dueTest]
@[simp] theorem dueTest_store (s : State) : (dueTest s).store = s.store := by
  simp [dueTest]
@[simp] theorem dueTest_timing (s : State) : (dueTest s).timing = s.timing := by
  simp [dueTest]
@[simp] theorem dueTest_looks (s : State) : (dueTest s).looks = s.looks := by
  simp [dueTest]
@[simp] theorem dueTest_comp (s : State) : (dueTest s).comp = s.comp := by
  simp [dueTest]
@[simp] theorem dueTest_ports (s : State) : (dueTest s).ports = s.ports := by
  simp [dueTest]
@[simp] theorem dueTest_power (s : State) : (dueTest s).power = s.power := by
  simp [dueTest]
@[simp] theorem dueTest_thermal (s : State) : (dueTest s).thermal = s.thermal := by
  simp [dueTest]
@[simp] theorem dueTest_cues (s : State) : (dueTest s).cues = s.cues := by
  simp [dueTest]
@[simp] theorem dueTest_lights (s : State) : (dueTest s).lights = s.lights := by
  simp [dueTest]
@[simp] theorem dueTest_follow (s : State) : (dueTest s).follow = s.follow := by
  simp [dueTest]
@[simp] theorem dueTest_freeIndex (s : State) : (dueTest s).freeIndex = s.freeIndex := by
  simp [dueTest]
@[simp] theorem dueTest_pending (s : State) : (dueTest s).pending = s.pending := by
  simp [dueTest]

/-! ## countFrame -/

@[simp] theorem countFrame_pins (s : State) : (countFrame s).pins = s.pins := by
  simp [countFrame]
@[simp] theorem countFrame_link (s : State) : (countFrame s).link = s.link := by
  simp [countFrame]
@[simp] theorem countFrame_store (s : State) : (countFrame s).store = s.store := by
  simp [countFrame]
@[simp] theorem countFrame_timing (s : State) : (countFrame s).timing = s.timing := by
  simp [countFrame]
@[simp] theorem countFrame_looks (s : State) : (countFrame s).looks = s.looks := by
  simp [countFrame]
@[simp] theorem countFrame_comp (s : State) : (countFrame s).comp = s.comp := by
  simp [countFrame]
@[simp] theorem countFrame_ports (s : State) : (countFrame s).ports = s.ports := by
  simp [countFrame]
@[simp] theorem countFrame_power (s : State) : (countFrame s).power = s.power := by
  simp [countFrame]
@[simp] theorem countFrame_thermal (s : State) : (countFrame s).thermal = s.thermal := by
  simp [countFrame]
@[simp] theorem countFrame_cues (s : State) : (countFrame s).cues = s.cues := by
  simp [countFrame]
@[simp] theorem countFrame_lights (s : State) : (countFrame s).lights = s.lights := by
  simp [countFrame]
@[simp] theorem countFrame_follow (s : State) : (countFrame s).follow = s.follow := by
  simp [countFrame]
@[simp] theorem countFrame_freeIndex (s : State) : (countFrame s).freeIndex = s.freeIndex := by
  simp [countFrame]
@[simp] theorem countFrame_pending (s : State) : (countFrame s).pending = s.pending := by
  simp [countFrame]

/-! ## raise -/

@[simp] theorem raise_pins (e : Source) (s : State) : (raise e s).pins = s.pins := by
  unfold raise; split; · rfl
  · split <;> simp
@[simp] theorem raise_link (e : Source) (s : State) : (raise e s).link = s.link := by
  unfold raise; split; · rfl
  · split <;> simp
@[simp] theorem raise_store (e : Source) (s : State) : (raise e s).store = s.store := by
  unfold raise; split; · rfl
  · split <;> simp
@[simp] theorem raise_timing (e : Source) (s : State) : (raise e s).timing = s.timing := by
  unfold raise; split; · rfl
  · split <;> simp
@[simp] theorem raise_looks (e : Source) (s : State) : (raise e s).looks = s.looks := by
  unfold raise; split; · rfl
  · split <;> simp
@[simp] theorem raise_comp (e : Source) (s : State) : (raise e s).comp = s.comp := by
  unfold raise; split; · rfl
  · split <;> simp
@[simp] theorem raise_ports (e : Source) (s : State) : (raise e s).ports = s.ports := by
  unfold raise; split; · rfl
  · split <;> simp
@[simp] theorem raise_power (e : Source) (s : State) : (raise e s).power = s.power := by
  unfold raise; split; · rfl
  · split <;> simp
@[simp] theorem raise_thermal (e : Source) (s : State) : (raise e s).thermal = s.thermal := by
  unfold raise; split; · rfl
  · split <;> simp
@[simp] theorem raise_cues (e : Source) (s : State) : (raise e s).cues = s.cues := by
  unfold raise; split; · rfl
  · split <;> simp
@[simp] theorem raise_lights (e : Source) (s : State) : (raise e s).lights = s.lights := by
  unfold raise; split; · rfl
  · split <;> simp
@[simp] theorem raise_follow (e : Source) (s : State) : (raise e s).follow = s.follow := by
  unfold raise; split; · rfl
  · split <;> simp
@[simp] theorem raise_freeIndex (e : Source) (s : State) : (raise e s).freeIndex = s.freeIndex := by
  unfold raise; split; · rfl
  · split <;> simp
@[simp] theorem raise_pending (e : Source) (s : State) : (raise e s).pending = s.pending := by
  unfold raise; split; · rfl
  · split <;> simp

/-! ## raiseWhen -/

@[simp] theorem raiseWhen_pins (c : Bool) (e : Source) (s : State) : (raiseWhen c e s).pins = s.pins := by
  unfold raiseWhen; split <;> simp
@[simp] theorem raiseWhen_link (c : Bool) (e : Source) (s : State) : (raiseWhen c e s).link = s.link := by
  unfold raiseWhen; split <;> simp
@[simp] theorem raiseWhen_store (c : Bool) (e : Source) (s : State) : (raiseWhen c e s).store = s.store := by
  unfold raiseWhen; split <;> simp
@[simp] theorem raiseWhen_timing (c : Bool) (e : Source) (s : State) : (raiseWhen c e s).timing = s.timing := by
  unfold raiseWhen; split <;> simp
@[simp] theorem raiseWhen_looks (c : Bool) (e : Source) (s : State) : (raiseWhen c e s).looks = s.looks := by
  unfold raiseWhen; split <;> simp
@[simp] theorem raiseWhen_comp (c : Bool) (e : Source) (s : State) : (raiseWhen c e s).comp = s.comp := by
  unfold raiseWhen; split <;> simp
@[simp] theorem raiseWhen_ports (c : Bool) (e : Source) (s : State) : (raiseWhen c e s).ports = s.ports := by
  unfold raiseWhen; split <;> simp
@[simp] theorem raiseWhen_power (c : Bool) (e : Source) (s : State) : (raiseWhen c e s).power = s.power := by
  unfold raiseWhen; split <;> simp
@[simp] theorem raiseWhen_thermal (c : Bool) (e : Source) (s : State) : (raiseWhen c e s).thermal = s.thermal := by
  unfold raiseWhen; split <;> simp
@[simp] theorem raiseWhen_cues (c : Bool) (e : Source) (s : State) : (raiseWhen c e s).cues = s.cues := by
  unfold raiseWhen; split <;> simp
@[simp] theorem raiseWhen_lights (c : Bool) (e : Source) (s : State) : (raiseWhen c e s).lights = s.lights := by
  unfold raiseWhen; split <;> simp
@[simp] theorem raiseWhen_follow (c : Bool) (e : Source) (s : State) : (raiseWhen c e s).follow = s.follow := by
  unfold raiseWhen; split <;> simp
@[simp] theorem raiseWhen_freeIndex (c : Bool) (e : Source) (s : State) : (raiseWhen c e s).freeIndex = s.freeIndex := by
  unfold raiseWhen; split <;> simp
@[simp] theorem raiseWhen_pending (c : Bool) (e : Source) (s : State) : (raiseWhen c e s).pending = s.pending := by
  unfold raiseWhen; split <;> simp

@[simp] theorem queueNotice_queue (s : State) : (queueNotice s).intake.queue = s.intake.queue := by
  simp [queueNotice]
@[simp] theorem tryNotice_queue (s : State) : (tryNotice s).intake.queue = s.intake.queue := by
  unfold tryNotice; split <;> simp
@[simp] theorem dueTest_queue (s : State) : (dueTest s).intake.queue = s.intake.queue := by
  simp [dueTest]
@[simp] theorem countFrame_queue (s : State) : (countFrame s).intake.queue = s.intake.queue := by
  simp [countFrame]
@[simp] theorem raise_queue (e : Source) (s : State) : (raise e s).intake.queue = s.intake.queue := by
  unfold raise; split; · rfl
  · split <;> simp
@[simp] theorem raiseWhen_queue (c : Bool) (e : Source) (s : State) : (raiseWhen c e s).intake.queue = s.intake.queue := by
  unfold raiseWhen; split <;> simp

end Sys2Proof.Machine
end

