-- ==== Sys2Proof/Laws/Commands.lean ====
section
/-! SUPPORT. What the command taken event can do, said once (R165, R166): the row idles, the executor waits, or the
oldest command is taken and answered. -/

namespace Sys2Proof.Machine

/-! ## Beginning and answering -/

@[simp] theorem beginCommand_queue (e : Entry) (rest : List Entry) (s : State) :
    (beginCommand e rest s).intake.queue = rest := rfl

@[simp] theorem beginCommand_executor (e : Entry) (rest : List Entry) (s : State) :
    (beginCommand e rest s).intake.executor = .idle := rfl

@[simp] theorem beginCommand_onAirGuard (e : Entry) (rest : List Entry) (s : State) :
    (beginCommand e rest s).onAirGuard = s.onAirGuard := rfl

@[simp] theorem beginCommand_pins (e : Entry) (rest : List Entry) (s : State) :
    (beginCommand e rest s).pins = s.pins := rfl

@[simp] theorem beginCommand_link (e : Entry) (rest : List Entry) (s : State) :
    (beginCommand e rest s).link = s.link := rfl

@[simp] theorem beginCommand_store (e : Entry) (rest : List Entry) (s : State) :
    (beginCommand e rest s).store = s.store := rfl

@[simp] theorem beginCommand_timing (e : Entry) (rest : List Entry) (s : State) :
    (beginCommand e rest s).timing = s.timing := rfl

@[simp] theorem beginCommand_looks (e : Entry) (rest : List Entry) (s : State) :
    (beginCommand e rest s).looks = s.looks := rfl

@[simp] theorem beginCommand_comp (e : Entry) (rest : List Entry) (s : State) :
    (beginCommand e rest s).comp = s.comp := rfl

@[simp] theorem beginCommand_ports (e : Entry) (rest : List Entry) (s : State) :
    (beginCommand e rest s).ports = s.ports := rfl

@[simp] theorem beginCommand_power (e : Entry) (rest : List Entry) (s : State) :
    (beginCommand e rest s).power = s.power := rfl

@[simp] theorem beginCommand_thermal (e : Entry) (rest : List Entry) (s : State) :
    (beginCommand e rest s).thermal = s.thermal := rfl

@[simp] theorem beginCommand_cues (e : Entry) (rest : List Entry) (s : State) :
    (beginCommand e rest s).cues = s.cues := rfl

@[simp] theorem beginCommand_lights (e : Entry) (rest : List Entry) (s : State) :
    (beginCommand e rest s).lights = s.lights := rfl

@[simp] theorem beginCommand_follow (e : Entry) (rest : List Entry) (s : State) :
    (beginCommand e rest s).follow = s.follow := rfl

@[simp] theorem beginCommand_events (e : Entry) (rest : List Entry) (s : State) :
    (beginCommand e rest s).events = s.events := rfl

@[simp] theorem beginCommand_out (e : Entry) (rest : List Entry) (s : State) :
    (beginCommand e rest s).out = s.out := rfl

@[simp] theorem beginCommand_freeIndex (e : Entry) (rest : List Entry) (s : State) :
    (beginCommand e rest s).freeIndex = s.freeIndex := rfl

@[simp] theorem beginCommand_pending (e : Entry) (rest : List Entry) (s : State) :
    (beginCommand e rest s).pending = s.pending := rfl

@[simp] theorem answer_pins (e : Entry) (t : Taken) : (answer e t).pins = t.state.pins := by
  unfold answer; split <;> simp

@[simp] theorem answer_link (e : Entry) (t : Taken) : (answer e t).link = t.state.link := by
  unfold answer; split <;> simp

@[simp] theorem answer_store (e : Entry) (t : Taken) : (answer e t).store = t.state.store := by
  unfold answer; split <;> simp

@[simp] theorem answer_timing (e : Entry) (t : Taken) : (answer e t).timing = t.state.timing := by
  unfold answer; split <;> simp

@[simp] theorem answer_looks (e : Entry) (t : Taken) : (answer e t).looks = t.state.looks := by
  unfold answer; split <;> simp

@[simp] theorem answer_comp (e : Entry) (t : Taken) : (answer e t).comp = t.state.comp := by
  unfold answer; split <;> simp

@[simp] theorem answer_ports (e : Entry) (t : Taken) : (answer e t).ports = t.state.ports := by
  unfold answer; split <;> simp

@[simp] theorem answer_power (e : Entry) (t : Taken) : (answer e t).power = t.state.power := by
  unfold answer; split <;> simp

@[simp] theorem answer_thermal (e : Entry) (t : Taken) : (answer e t).thermal = t.state.thermal := by
  unfold answer; split <;> simp

@[simp] theorem answer_cues (e : Entry) (t : Taken) : (answer e t).cues = t.state.cues := by
  unfold answer; split <;> simp

@[simp] theorem answer_lights (e : Entry) (t : Taken) : (answer e t).lights = t.state.lights := by
  unfold answer; split <;> simp

@[simp] theorem answer_follow (e : Entry) (t : Taken) : (answer e t).follow = t.state.follow := by
  unfold answer; split <;> simp

@[simp] theorem answer_events (e : Entry) (t : Taken) : (answer e t).events = t.state.events := by
  unfold answer; split <;> simp

@[simp] theorem answer_freeIndex (e : Entry) (t : Taken) : (answer e t).freeIndex = t.state.freeIndex := by
  unfold answer; split <;> simp

@[simp] theorem answer_pending (e : Entry) (t : Taken) : (answer e t).pending = t.state.pending := by
  unfold answer; split <;> simp
@[simp] theorem answer_queue (e : Entry) (t : Taken) : (answer e t).intake.queue = t.state.intake.queue := by
  unfold answer; split <;> simp

/-! ## The command taken event -/

theorem takeCommand_idle {accepts : Entry → Bool} {run : List Byte → State → Taken} {s : State}
    (h : s.intake.queue = []) : takeCommand accepts run s = .next s := by
  simp [takeCommand, h]

theorem takeCommand_other {accepts : Entry → Bool} {run : List Byte → State → Taken} {s : State} {e : Entry}
    {rest : List Entry} (h : s.intake.queue = e :: rest) (ha : accepts e = false) :
    takeCommand accepts run s = .next s := by
  simp [takeCommand, h, ha]

/-- R165: a direct command waits while no own-queue slot is free. -/
theorem takeCommand_waits {accepts : Entry → Bool} {run : List Byte → State → Taken} {s : State} {e : Entry}
    {rest : List Entry} (h : s.intake.queue = e :: rest) (ha : accepts e = true) (hd : e.kind = .direct)
    (hf : s.ret.free = 0) :
    takeCommand accepts run s = .next (s.setExecutor .waiting) := by
  simp [takeCommand, h, ha, hd, hf]

/-- R165, R166: the oldest command is taken whole and answered. -/
theorem takeCommand_takes {accepts : Entry → Bool} {run : List Byte → State → Taken} {s : State} {e : Entry}
    {rest : List Entry} (h : Takes s e rest) (ha : accepts e = true) :
    takeCommand accepts run s = .next (answer e (run e.payload (beginCommand e rest s))) := by
  obtain ⟨hq, hf⟩ := h
  have : ¬ (e.kind = .direct ∧ s.ret.free = 0) := fun ⟨a, b⟩ => hf a b
  simp [takeCommand, hq, ha, this]

/-- The same, for the event of one code. -/
theorem takeCode_takes {code : Byte} {run : List Byte → State → Taken} {s : State} {e : Entry} {rest : List Entry}
    (h : Takes s e rest) (hc : e.code = code) :
    takeCode code run s = .next (answer e (run e.payload (beginCommand e rest s))) :=
  takeCommand_takes h (by simp [hc])

/-- R165: everything the command taken event can do. -/
theorem takeCommand_cases {accepts : Entry → Bool} {run : List Byte → State → Taken} {s t : State}
    (h : takeCommand accepts run s = .next t) :
    t = s
      ∨ (∃ e rest, s.intake.queue = e :: rest ∧ e.kind = .direct ∧ s.ret.free = 0
          ∧ t = s.setExecutor .waiting)
      ∨ ∃ e rest, Takes s e rest ∧ accepts e = true ∧ t = answer e (run e.payload (beginCommand e rest s)) := by
  unfold takeCommand at h
  injection h with h
  cases hq : s.intake.queue with
  | nil => rw [hq] at h; exact .inl h.symm
  | cons e rest =>
    rw [hq] at h
    simp only at h
    split at h
    · next ha =>
      split at h
      · next hw => exact .inr (.inl ⟨e, rest, rfl, hw.1, hw.2, h.symm⟩)
      · next hw => exact .inr (.inr ⟨e, rest, ⟨hq, fun a b => hw ⟨a, b⟩⟩, ha, h.symm⟩)
    · exact .inl h.symm

/-- A property that waiting keeps and that every command taken keeps, the command taken event keeps. -/
theorem takeCommand_keeps {P : State → Prop} {accepts : Entry → Bool} {run : List Byte → State → Taken} {s t : State}
    (h : takeCommand accepts run s = .next t) (hs : P s)
    (hw : s.ret.free = 0 → s.intake.headDirect = true → P (s.setExecutor .waiting))
    (ht : ∀ e rest, Takes s e rest → P (answer e (run e.payload (beginCommand e rest s)))) : P t := by
  obtain rfl | ⟨e, rest, hq, hd, hf, rfl⟩ | ⟨e, rest, he, -, rfl⟩ := takeCommand_cases h
  · exact hs
  · exact hw hf (by simp [Intake.headDirect, hq, hd])
  · exact ht e rest he

/-! ## The checks (R166) -/

@[simp] theorem needLength_pos {n : Nat} {p : List Byte} {s : State} {k : Taken} (h : p.length = n) :
    needLength n p s k = k := by simp [needLength, h]

@[simp] theorem needLength_neg {n : Nat} {p : List Byte} {s : State} {k : Taken} (h : p.length ≠ n) :
    needLength n p s k = refuse .badLength s := by simp [needLength, h]

@[simp] theorem needUnguarded_pos {s : State} {k : Taken} (h : s.onAirGuard = false) : needUnguarded s k = k := by
  simp [needUnguarded, h]

@[simp] theorem needUnguarded_neg {s : State} {k : Taken} (h : s.onAirGuard = true) :
    needUnguarded s k = refuse .denied s := by simp [needUnguarded, h]

@[simp] theorem need_true (r : Result) (s : State) (k : Taken) : need true r s k = k := by simp [need]

@[simp] theorem need_false (r : Result) (s : State) (k : Taken) : need false r s k = refuse r s := by simp [need]

@[simp] theorem needFields_some {α : Type} (a : α) (s : State) (k : α → Taken) : needFields (some a) s k = k a := rfl

@[simp] theorem needFields_none {α : Type} (s : State) (k : α → Taken) :
    needFields (none : Option α) s k = refuse .badArgument s := rfl

end Sys2Proof.Machine
end

