-- ==== Sys2Proof/Laws/Events.lean ====
section
/-! SUPPORT. What raising an event and sending a packet do to the event unit and the return merger, said once (R168,
R169, R173, R175, R176). -/

namespace Sys2Proof.Machine

/-! ## The arbiter (R169) -/

/-- R169: everything the arbiter can do. -/
theorem startSend_cases (s : State) :
    (startSend s = s ∧ (s.ret.sending = none → s.ret.own = [] ∧ s.ret.pass = []))
      ∨ (∃ p own, s.ret.sending = none ∧ s.ret.own = p :: own ∧ (s.ret.pass = [] ∨ s.ret.last = .pass)
          ∧ startSend s = sendFrom s .own p.bytes own s.ret.pass)
      ∨ ∃ q pass, s.ret.sending = none ∧ s.ret.pass = q :: pass ∧ (s.ret.own = [] ∨ s.ret.last = .own)
          ∧ startSend s = sendFrom s .pass q s.ret.own pass := by
  unfold startSend
  cases hs : s.ret.sending with
  | some x => simp
  | none =>
    cases ho : s.ret.own with
    | nil => cases hp : s.ret.pass <;> simp
    | cons p own =>
      cases hp : s.ret.pass with
      | nil => simp
      | cons q pass => cases hl : s.ret.last <;> simp

/-- R169: after the arbiter the lane is idle only when both queues are empty. -/
theorem startSend_idle (s : State) (h : (startSend s).ret.sending = none) :
    (startSend s).ret.own = [] ∧ (startSend s).ret.pass = [] := by
  obtain ⟨e, hi⟩ | ⟨p, own, -, -, -, e⟩ | ⟨q, pass, -, -, -, e⟩ := startSend_cases s
  · rw [e] at h ⊢; exact hi h
  · rw [e] at h; simp [sendFrom] at h
  · rw [e] at h; simp [sendFrom] at h

@[simp] theorem startSend_reserved (s : State) : (startSend s).ret.reserved = s.ret.reserved := by
  unfold startSend; split <;> (try split) <;> rfl

@[simp] theorem startSend_drops (s : State) : (startSend s).ret.drops = s.ret.drops := by
  unfold startSend; split <;> (try split) <;> rfl

theorem startSend_own_length_le (s : State) : (startSend s).ret.own.length ≤ s.ret.own.length := by
  obtain ⟨e, -⟩ | ⟨p, own, -, ho, -, e⟩ | ⟨q, pass, -, -, -, e⟩ := startSend_cases s <;> simp [sendFrom, *]

theorem startSend_pass_length_le (s : State) : (startSend s).ret.pass.length ≤ s.ret.pass.length := by
  obtain ⟨e, -⟩ | ⟨p, own, -, ho, -, e⟩ | ⟨q, pass, -, hp, -, e⟩ := startSend_cases s <;> simp [sendFrom, *]

/-- R168, R169: after a packet is placed in the own queue, at most one packet more is held there, and the lane is
idle only when both queues are empty. -/
theorem placeOwn_merger (p : ReturnPacket) (s : State) :
    (placeOwn p s).ret.own.length ≤ s.ret.own.length + 1 ∧ (placeOwn p s).ret.pass.length ≤ s.ret.pass.length
      ∧ (placeOwn p s).ret.reserved = s.ret.reserved
      ∧ ((placeOwn p s).ret.sending = none → (placeOwn p s).ret.own = [] ∧ (placeOwn p s).ret.pass = []) := by
  simp only [placeOwn, lookIntake_ret, startSend_reserved, true_and]
  refine ⟨?_, ?_, startSend_idle _⟩
  · simpa using startSend_own_length_le { s with ret := { s.ret with own := s.ret.own ++ [p] } }
  · simpa using startSend_pass_length_le { s with ret := { s.ret with own := s.ret.own ++ [p] } }

/-! ## The executor's look at the queue (R165) -/

/-- R165: after the executor has looked at the queue, it is WAITING when the oldest command is direct and no slot is
free. -/
theorem lookIntake_waiting (s : State) (h : s.intake.headDirect = true) (hf : s.ret.free = 0) :
    (lookIntake s).intake.executor = .waiting := by
  simp [lookIntake, h, hf]

@[simp] theorem lookIntake_headDirect (s : State) : (lookIntake s).intake.headDirect = s.intake.headDirect := by
  unfold lookIntake; split <;> rfl

@[simp] theorem placeOwn_headDirect (p : ReturnPacket) (s : State) :
    (placeOwn p s).intake.headDirect = s.intake.headDirect := by
  simp [Intake.headDirect]

/-! ## Raising an event (R173) -/

@[simp] theorem EventUnit.noticeSent_flags (u : EventUnit) : u.noticeSent.flags = u.flags := rfl
@[simp] theorem EventUnit.testDue_flags (u : EventUnit) : u.testDue.flags = u.flags := rfl
@[simp] theorem EventUnit.setFlag_flags (u : EventUnit) (e : Source) : (u.setFlag e).flags = u.flags ||| e.mask := rfl
@[simp] theorem EventUnit.raiseGroup_flags (u : EventUnit) (g : Group) : (u.raiseGroup g).flags = u.flags := rfl

@[simp] theorem EventUnit.countFrame_flags (u : EventUnit) : u.countFrame.flags = u.flags := by
  unfold EventUnit.countFrame; split <;> rfl

@[simp] theorem queueNotice_events (s : State) : (queueNotice s).events = s.events.noticeSent := by simp [queueNotice]

/-- R176: what queuing a due notice leaves of the event unit. -/
theorem tryNotice_events (s : State) :
    (tryNotice s).events = s.events ∨ (tryNotice s).events = s.events.noticeSent := by
  unfold tryNotice; split <;> simp

/-- R175, R176: what the due test leaves of the event unit. -/
theorem dueTest_events (s : State) :
    (dueTest s).events = s.events.testDue ∨ (dueTest s).events = s.events.testDue.noticeSent := by
  simpa [dueTest] using tryNotice_events (s.setEvents s.events.testDue)

/-- R173, R175: everything a raising can leave of the event unit. -/
theorem raise_events (e : Source) (s : State) :
    (s.events.has e = true ∧ (raise e s).events = s.events)
      ∨ (s.events.has e = false ∧ s.events.enabled e.group = false ∧ (raise e s).events = s.events.setFlag e)
      ∨ (s.events.has e = false ∧ s.events.enabled e.group = true
          ∧ ((raise e s).events = ((s.events.setFlag e).raiseGroup e.group).testDue
            ∨ (raise e s).events = ((s.events.setFlag e).raiseGroup e.group).testDue.noticeSent)) := by
  unfold raise
  cases h : s.events.has e
  · cases h' : s.events.enabled e.group
    · simp
    · simpa using dueTest_events (s.setEvents ((s.events.setFlag e).raiseGroup e.group))
  · simp

/-- R173: raising an event sets its source flag and no other. -/
theorem raise_flags (e : Source) (s : State) : (raise e s).events.flags = s.events.flags ||| e.mask := by
  have hbit : s.events.has e = true → s.events.flags = s.events.flags ||| e.mask := by
    intro h
    apply BitVec.eq_of_getLsbD_eq
    intro i hi
    by_cases hib : i = e.bit
    · subst hib
      have h2 : s.events.flags.getLsbD e.bit = true := h
      simp [h2]
    · have hm : e.mask.getLsbD i = false := by
        simp [Source.mask]
        intro _ _
        omega
      simp [hm]
  obtain ⟨h, e'⟩ | ⟨-, -, e'⟩ | ⟨-, -, e' | e'⟩ := raise_events e s <;> simp [e']
  exact hbit h

/-- R173: a raised event's flag is set. -/
theorem raise_has (e : Source) (s : State) : (raise e s).events.has e = true := by
  cases e <;> simp [EventUnit.has, raise_flags, Source.mask, Source.bit]

end Sys2Proof.Machine
end

