-- ==== Sys2Proof/Laws/Fields.lean ====
section
/-! SUPPORT. What the readers of payload fields answer, said once. -/

namespace Sys2Proof.Machine

/-- R183: a yes/no byte. -/
theorem readYesNo_eq (p : List Byte) (i : Nat) : readYesNo p i = if u8 p i ≤ 1 then some (u8 p i == 1) else none := by
  unfold readYesNo
  generalize u8 p i = n
  match n with
  | 0 => simp
  | 1 => simp
  | n + 2 => simp

theorem recoveryOf_eq (n : Nat) : recoveryOf n = if n ≤ 1 then some (if n = 0 then .auto else .latched) else none := by
  match n with
  | 0 => simp [recoveryOf]
  | 1 => simp [recoveryOf]
  | n + 2 => simp [recoveryOf]

theorem responseOf_eq (n : Nat) : responseOf n = if n ≤ 1 then some (if n = 0 then .zone else .global) else none := by
  match n with
  | 0 => simp [responseOf]
  | 1 => simp [responseOf]
  | n + 2 => simp [responseOf]

/-- A picture code with each channel at most 4095. -/
theorem readCode_eq (p : List Byte) (i : Nat) :
    readCode p i =
      if u16 p i ≤ 4095 ∧ u16 p (i + 2) ≤ 4095 ∧ u16 p (i + 4) ≤ 4095 then
        some { r := u16 p i, g := u16 p (i + 2), b := u16 p (i + 4) }
      else none := rfl

/-- The records read stand one after the other in the payload. -/
theorem readRecords_get {α : Type} {f : List Byte → Option α} {size n : Nat} {p : List Byte} {as : List α}
    (h : readRecords f size n p = some as) : as.length = n ∧ ∀ k < n, as[k]? = f (p.drop (size * k)) := by
  induction n generalizing p as with
  | zero => simp [readRecords] at h; subst h; simp
  | succ n ih =>
    unfold readRecords at h
    cases h1 : f p <;> cases h2 : readRecords f size n (p.drop size) <;> simp [h1, h2] at h
    subst h
    obtain ⟨a, b⟩ := ih h2
    refine ⟨by simp [a], fun k hk => ?_⟩
    cases k with
    | zero => simp [h1]
    | succ k =>
      rw [List.getElem?_cons_succ, b k (by omega), List.drop_drop, Nat.mul_succ, Nat.add_comm]

/-- A list of records is read when each of them is in range. -/
theorem readRecords_none {α : Type} {f : List Byte → Option α} {size n k : Nat} {p : List Byte} (hk : k < n)
    (h : f (p.drop (size * k)) = none) : readRecords f size n p = none := by
  cases hr : readRecords f size n p with
  | none => rfl
  | some as =>
    obtain ⟨hl, hg⟩ := readRecords_get hr
    have := hg k hk
    rw [h, List.getElem?_eq_none_iff] at this
    omega

theorem readRecords_isSome {α : Type} {f : List Byte → Option α} {size n : Nat} {p : List Byte}
    (h : ∀ k < n, (f (p.drop (size * k))).isSome = true) : ∃ as, readRecords f size n p = some as := by
  induction n generalizing p with
  | zero => exact ⟨_, rfl⟩
  | succ n ih =>
    obtain ⟨a, ha⟩ := Option.isSome_iff_exists.mp (h 0 (by omega))
    obtain ⟨as, has⟩ := ih (p := p.drop size) (fun k hk => by
      have := h (k + 1) (by omega)
      rwa [List.drop_drop, show size + size * k = size * (k + 1) by rw [Nat.mul_succ, Nat.add_comm]])
    simp at ha
    exact ⟨a :: as, by simp [readRecords, ha, has]⟩

/-- R118: an id is in the queue. -/
theorem hasCue_iff (id : Nat) (q : List Cue) : hasCue id q = true ↔ ∃ d ∈ q, d.id = id := by simp [hasCue]

/-- R105: some zone is in SHUTDOWN. -/
theorem anyShutdown_iff (zones : Vector Zone 16) :
    anyShutdown zones = true ↔ ∃ y : Fin 16, zones[y].state = .shutdown := by
  simp only [anyShutdown, List.any_eq_true, Vector.mem_toList_iff, Vector.mem_iff_getElem, beq_iff_eq]
  constructor
  · rintro ⟨x, ⟨i, hi, rfl⟩, h⟩
    exact ⟨⟨i, hi⟩, h⟩
  · rintro ⟨j, h⟩
    exact ⟨_, ⟨j.val, j.isLt, rfl⟩, h⟩

/-- R37: a present entry of a look names this id. -/
theorem lookNames_iff (look : Look) (id : Nat) :
    lookNames look id = true ↔ ∃ j : Fin 128, look.tiles[j].present = true ∧ look.tiles[j].typeId = id := by
  simp only [lookNames, List.any_eq_true, Vector.mem_toList_iff, Vector.mem_iff_getElem]
  constructor
  · rintro ⟨x, ⟨i, hi, rfl⟩, h⟩
    exact ⟨⟨i, hi⟩, by simpa using h⟩
  · rintro ⟨j, h⟩
    exact ⟨_, ⟨j.val, j.isLt, rfl⟩, by simpa using h⟩

end Sys2Proof.Machine
end

