-- ==== Sys2Proof/Laws/FrameEnd.lean ====
section
/-! SUPPORT. A frame end being worked off, said once (R175): what one step of it can do, and that a property which every
step and the event unit's count keep holds at its end; what all raisings keep of the event unit, so does a frame end. -/

namespace Sys2Proof.Machine

/-- R175: a step is taken as it is, or with the event unit's count before it. -/
theorem EndWork.act_cases (w : EndWork) (f : State → State) :
    ((w.act f).state = f w.state ∧ w.left ≠ some 0)
      ∨ ((w.act f).state = f (countFrame w.state) ∧ w.left = some 0 ∧ (w.act f).left = none) := by
  obtain ⟨s, _ | _ | n⟩ := w <;> simp [EndWork.act]

/-- R175: the event unit counts at the end when it has not counted before. -/
theorem EndWork.finish_cases (w : EndWork) :
    (w.finish = w.state ∧ w.left = none) ∨ (w.finish = countFrame w.state ∧ w.left ≠ none) := by
  obtain ⟨s, _ | n⟩ := w <;> simp [EndWork.finish]

theorem EndWork.act_keeps {P : State → Prop} {f : State → State} {w : EndWork} (h : P w.state)
    (hf : ∀ s, P s → P (f s)) (hc : ∀ s, P s → P (countFrame s)) : P (w.act f).state := by
  obtain ⟨e, -⟩ | ⟨e, -⟩ := w.act_cases f <;> rw [e]
  · exact hf _ h
  · exact hf _ (hc _ h)

theorem EndWork.actAll_keeps {P : State → Prop} {fs : List (State → State)} {w : EndWork} (h : P w.state)
    (hf : ∀ f ∈ fs, ∀ s, P s → P (f s)) (hc : ∀ s, P s → P (countFrame s)) : P (w.actAll fs).state := by
  induction fs generalizing w with
  | nil => exact h
  | cons f fs ih =>
    exact ih (act_keeps h (hf f (by simp)) hc) fun g hg => hf g (by simp [hg])

theorem EndWork.foldl_keeps {α : Type} {P : State → Prop} {f : EndWork → α → EndWork} {cs : List α} {w : EndWork}
    (hf : ∀ w c, P w.state → P (f w c).state) (h : P w.state) : P (cs.foldl f w).state := by
  induction cs generalizing w with
  | nil => exact h
  | cons c cs ih => exact ih (hf w c h)

theorem EndWork.finish_keeps {P : State → Prop} {w : EndWork} (h : P w.state) (hc : ∀ s, P s → P (countFrame s)) :
    P w.finish := by
  obtain ⟨e, -⟩ | ⟨e, -⟩ := w.finish_cases <;> rw [e]
  · exact h
  · exact hc _ h

/-- R55–R57, R102–R104: a row that names what comes about at a frame end is that frame end, or changes nothing. -/
theorem frameEndWhen_cases (comes : Bool) (s : State) :
    (s.timing.phase = .active ∧ comes = true ∧ frameEndWhen comes s = frameEnd (freeOrder s) (nextFree s))
      ∨ ((s.timing.phase ≠ .active ∨ comes = false) ∧ frameEndWhen comes s = s) := by
  unfold frameEndWhen
  by_cases h : s.timing.phase = .active <;> cases comes <;> simp [h]

/-! ## What the steps of a frame end do to the event unit and to the timing: they raise events, and nothing else -/

section

variable {P : EventUnit → Timing → Prop} (hr : ∀ e s, P s.events s.timing → P (raise e s).events (raise e s).timing)
include hr

theorem raiseWhen_raisings (b : Bool) (e : Source) (s : State) (h : P s.events s.timing) :
    P (raiseWhen b e s).events (raiseWhen b e s).timing := by
  cases b
  · exact h
  · exact hr e s h

theorem firingSteps_raisings (c : Cue) :
    ∀ f ∈ firingSteps c, ∀ s, P s.events s.timing → P (f s).events (f s).timing := by
  intro f hf s h
  simp only [firingSteps, List.mem_append, List.mem_cons, List.mem_map, List.not_mem_nil, or_false] at hf
  obtain ((rfl | rfl | rfl) | ⟨x, -, rfl⟩) | rfl | rfl | rfl := hf
  · unfold issueSwap swapLook; split
    · split <;> exact hr _ _ h
    · exact h
  · unfold noteSwap; split
    · exact hr _ _ h
    · exact h
  · unfold issueMaster; split <;> exact h
  · unfold issueFade lightFade
    cases s.lights.scenes[x.1.scene]? with
    | none => exact hr _ _ h
    | some sc => cases sc with
      | ready _ => exact h
      | empty => exact hr _ _ h
      | building _ _ => exact hr _ _ h
  · unfold issueFollow followAction followOnAction followOffAction
    split
    · split <;> exact h
    · exact h
  · unfold issueLightMaster; split <;> exact h
  · exact hr _ _ h

theorem checkFrameEnd_raisings (s : State) (h : P s.events s.timing) :
    P (checkFrameEnd s).events (checkFrameEnd s).timing := by
  unfold checkFrameEnd; split
  · split
    · exact h
    · exact hr _ _ h
  · exact h

theorem portSteps_raisings (c : Fin 8) (p : ChainPort) :
    ∀ f ∈ portSteps c p, ∀ s, P s.events s.timing → P (f s).events (f s).timing := by
  intro f hf s h
  unfold portSteps at hf
  split at hf
  · simp at hf
  · simp only [List.mem_singleton] at hf; subst hf; exact h
  · split at hf
    · simp only [List.mem_cons, List.not_mem_nil, or_false] at hf
      obtain rfl | rfl := hf
      · exact raiseWhen_raisings hr _ _ _ h
      · unfold endEnumeration; split
        · exact h
        · exact hr _ _ h
    · simp at hf
  · simp only [runSteps, List.mem_append, List.mem_cons, List.mem_map, List.not_mem_nil, or_false] at hf
    obtain (rfl | ⟨i, -, rfl⟩) | rfl := hf
    · exact h
    · unfold markSilent; split
      · exact hr _ _ h
      · exact h
    · unfold failChain; split
      · exact hr _ _ h
      · exact h
  · simp only [List.mem_singleton] at hf; subst hf
    unfold failedFrameEnd recoverChain; split <;> exact h

theorem evaluateZone_raisings (z : Fin 16) (s : State) (h : P s.events s.timing) :
    P (evaluateZone z s).events (evaluateZone z s).timing := by
  unfold evaluateZone settleZone
  split
  · exact hr _ _ h
  · exact hr _ _ h
  · refine hr _ _ ?_
    unfold blackOut; split <;> exact h
  · exact h
  · unfold moveDown; split <;> exact h

theorem evaluateLimiter_raisings (c : Fin 8) (s : State) (h : P s.events s.timing) :
    P (evaluateLimiter c s).events (evaluateLimiter c s).timing := by
  unfold evaluateLimiter; split
  · exact raiseWhen_raisings hr _ _ _ h
  · exact h

variable (hc : ∀ s, P s.events s.timing → P (countFrame s).events (countFrame s).timing)
include hc

/-- R55–R57: the ports' work. -/
theorem portsFrameEnd_raisings (w : EndWork) (h : P w.state.events w.state.timing) :
    P (portsFrameEnd w).state.events (portsFrameEnd w).state.timing := by
  unfold portsFrameEnd
  refine EndWork.foldl_keeps (P := fun s => P s.events s.timing) (fun w c h => ?_) h
  unfold portFrameEnd
  exact EndWork.actAll_keeps (P := fun s => P s.events s.timing) h (portSteps_raisings hr c w.state.ports[c]) hc

/-- R98–R106: the thermal block's work. -/
theorem thermalFrameEnd_raisings (w : EndWork) (h : P w.state.events w.state.timing) :
    P (thermalFrameEnd w).state.events (thermalFrameEnd w).state.timing := by
  refine EndWork.act_keeps (P := fun s => P s.events s.timing) (EndWork.actAll_keeps h ?_ hc) (fun _ h => h) hc
  intro f hf s h
  obtain ⟨z, -, rfl⟩ := List.mem_map.mp hf
  exact evaluateZone_raisings hr z s h

/-- R91–R95: the power block's work. -/
theorem powerFrameEnd_raisings (w : EndWork) (h : P w.state.events w.state.timing) :
    P (powerFrameEnd w).state.events (powerFrameEnd w).state.timing :=
  EndWork.foldl_keeps (P := fun s => P s.events s.timing)
    (fun _ c h =>
      EndWork.act_keeps (P := fun s => P s.events s.timing)
        (EndWork.act_keeps (P := fun s => P s.events s.timing) h (evaluateLimiter_raisings hr c) hc)
        (fun s h => raiseWhen_raisings hr _ _ s h) hc) h

/-- R17, R173, R175: what every raising and the event unit's count keep of the event unit and the timing, an output frame
end keeps. -/
theorem frameEndWork_raisings (order : FrameEndOrder) (s : State) (h : P s.events s.timing) :
    P (frameEndWork order s).events (frameEndWork order s).timing := by
  refine EndWork.finish_keeps (P := fun s => P s.events s.timing)
    (EndWork.act_keeps (P := fun s => P s.events s.timing) ?_ (fun _ h => h) hc) hc
  let w := (cuesFrameEnd { state := s, left := some order.countAt }).act checkFrameEnd
  have hcues : P w.state.events w.state.timing := by
    refine EndWork.act_keeps (P := fun s => P s.events s.timing) (EndWork.act_keeps (P := fun s => P s.events s.timing)
      (EndWork.actAll_keeps (P := fun s => P s.events s.timing) h ?_ hc) (fun _ h => h) hc)
      (checkFrameEnd_raisings hr) hc
    intro f hf
    obtain ⟨c, -, hf⟩ := List.mem_flatMap.mp hf
    exact firingSteps_raisings hr c f hf
  unfold blocksFrameEnd portsAndThermal
  split <;> split
  · exact portsFrameEnd_raisings hr hc _ (thermalFrameEnd_raisings hr hc _ (powerFrameEnd_raisings hr hc _ hcues))
  · exact thermalFrameEnd_raisings hr hc _ (portsFrameEnd_raisings hr hc _ (powerFrameEnd_raisings hr hc _ hcues))
  · exact powerFrameEnd_raisings hr hc _ (portsFrameEnd_raisings hr hc _ (thermalFrameEnd_raisings hr hc _ hcues))
  · exact powerFrameEnd_raisings hr hc _ (thermalFrameEnd_raisings hr hc _ (portsFrameEnd_raisings hr hc _ hcues))

end

/-- R173, R175: the event unit's count at a frame end sets and clears no source flag. -/
theorem countFrame_flags (s : State) : (countFrame s).events.flags = s.events.flags := by
  obtain e | e := dueTest_events (s.setEvents s.events.countFrame) <;>
    simp [countFrame, e, EventUnit.testDue, EventUnit.noticeSent]

/-- R17: no block's work at an output frame end touches the timing generator. -/
theorem frameEndWork_timing (order : FrameEndOrder) (s : State) : (frameEndWork order s).timing = s.timing :=
  frameEndWork_raisings (P := fun _ g => g = s.timing) (fun e t h => by rw [raise_timing, h])
    (fun t h => by rw [countFrame_timing, h]) order s rfl

/-- R173: an output frame end clears no source flag. -/
theorem frameEndWork_has (order : FrameEndOrder) (e : Source) (s : State) (h : s.events.has e = true) :
    (frameEndWork order s).events.has e = true :=
  frameEndWork_raisings (P := fun u _ => u.has e = true)
    (fun x s h => by simp only [EventUnit.has, raise_flags, BitVec.getLsbD_or] at *; simp [h])
    (fun s h => by simpa only [EventUnit.has, countFrame_flags] using h) order s h

end Sys2Proof.Machine
end

