-- ==== Sys2Proof/Laws/Looks.lean ====
section
/-! SUPPORT. What a write of the STAGED bank does, and what the first failure of a check is, said once (R28, R39). -/

namespace Sys2Proof.Machine

/-- R28: everything a write of the STAGED bank does. -/
theorem writeStaged_spec (k : Look) (s : State) :
    ∃ u, writeStaged k s = done u ∧ u = { s with looks := u.looks } ∧ u.looks.active = s.looks.active
      ∧ u.looks.types = s.looks.types ∧ u.looks.result = s.looks.result ∧ u.looks.staged = .editing
      ∧ u.looks.stagedLook = k :=
  ⟨_, rfl, rfl, LookStore.setStaged_active _ _, LookStore.setStaged_types _ _, LookStore.setStaged_result _ _, rfl,
    LookStore.setStaged_stagedLook _ _⟩

theorem needNotChecking_pos {s : State} {k : Taken} (h : s.looks.staged ≠ .checking) : needNotChecking s k = k := by
  simp [needNotChecking, need, h]

theorem needNotChecking_neg {s : State} {k : Taken} (h : s.looks.staged = .checking) :
    needNotChecking s k = refuse .busy s := by
  simp [needNotChecking, need, h]

/-- R40: everything the completion of a check does to the look store; the rest is the raising of CHECK_DONE. -/
@[simp] theorem completeCheck_looks (s : State) : (completeCheck s).looks = s.looks.completeCheck := by
  simp [completeCheck]

/-- R40: the completion of a check raises CHECK_DONE. -/
theorem completeCheck_has (s : State) : (completeCheck s).events.has .checkDone = true := raise_has _ _

/-- R40: everything an output frame end does to a check. -/
theorem checkFrameEnd_cases (s : State) :
    (s.looks.staged ≠ .checking ∧ checkFrameEnd s = s)
      ∨ (s.looks.staged = .checking ∧ s.looks.checkEnds = 0
          ∧ checkFrameEnd s = { s with looks := { s.looks with checkEnds := 1 } })
      ∨ (s.looks.staged = .checking ∧ s.looks.checkEnds ≠ 0 ∧ checkFrameEnd s = completeCheck s) := by
  unfold checkFrameEnd
  by_cases h : s.looks.staged = .checking
  · by_cases h0 : s.looks.checkEnds = 0 <;> simp [h, h0]
  · simp [h]

/-- The first place of a list of places, and the places before it. -/
theorem placesWhere_eq_cons {α : Type} {n : Nat} {p : α → Bool} {v : Vector α n} {x : Fin n} {xs : List (Fin n)}
    (h : placesWhere p v = x :: xs) : p v[x] = true ∧ ∀ j < x, p v[j] = false := by
  unfold placesWhere at h
  have hx : x ∈ (List.finRange n).filter fun i => p v[i] := by rw [h]; simp
  refine ⟨by simpa using (List.mem_filter.mp hx).2, fun j hj => ?_⟩
  by_contra hc
  have hjm : j ∈ (List.finRange n).filter fun i => p v[i] := by simp at hc ⊢; exact hc
  have hs : List.Pairwise (· < ·) ((List.finRange n).filter fun i => p v[i]) := (List.pairwise_lt_finRange n).filter _
  rw [h] at hjm hs
  rw [List.pairwise_cons] at hs
  rcases List.mem_cons.mp hjm with rfl | hm
  · exact absurd hj (lt_irrefl _)
  · exact absurd (hs.1 j hm) (not_lt.mpr hj.le)

end Sys2Proof.Machine
end

