-- ==== Sys2Proof/Laws/Pages.lean ====
section
/-! SUPPORT. The frame pages as storage: a line read after a write, the canonical form kept by every write (log 22),
and the roles of pages after a role change (R3, R4, R7). -/

namespace Sys2Proof.Machine

/-! ## Reading after a write -/

theorem findLine_insertLine (n m : Nat) (px : List Rgb) (ls : List (Nat × List Rgb)) (h : linesRising ls = true) :
    findLine m (insertLine n px ls) = if m = n then some px else findLine m ls := by
  induction ls with
  | nil => simp [insertLine, findLine]
  | cons a rest ih =>
    obtain ⟨k, q⟩ := a
    have hr : linesRising rest = true := by
      cases rest with
      | nil => rfl
      | cons b rest => simp only [linesRising, Bool.and_eq_true] at h; exact h.2
    simp only [insertLine]
    split
    · simp [findLine]
    · split
      · next hk => subst hk; simp only [findLine]; split <;> simp_all
      · next h1 h2 => simp only [findLine, ih hr]; split <;> [(split <;> simp_all); rfl]

/-- The entries behind the first have greater line numbers. -/
theorem linesRising_cons {m : Nat} {q : List Rgb} {rest : List (Nat × List Rgb)} :
    linesRising ((m, q) :: rest) = true ↔ (∀ x ∈ rest, m < x.1) ∧ linesRising rest = true := by
  induction rest generalizing m q with
  | nil => simp [linesRising]
  | cons a rest ih =>
    obtain ⟨n, r⟩ := a
    constructor
    · intro h
      simp only [linesRising, Bool.and_eq_true, decide_eq_true_eq] at h
      refine ⟨?_, h.2⟩
      intro x hx
      rcases List.mem_cons.mp hx with rfl | hx
      · exact h.1
      · have := (ih.mp h.2).1 x hx; omega
    · rintro ⟨h1, h2⟩
      simp only [linesRising, Bool.and_eq_true, decide_eq_true_eq]
      exact ⟨h1 (n, r) (by simp), h2⟩

theorem findLine_eq_none_of_lt {n : Nat} {ls : List (Nat × List Rgb)} (h : ∀ x ∈ ls, n < x.1) : findLine n ls = none := by
  induction ls with
  | nil => rfl
  | cons a rest ih =>
    obtain ⟨k, q⟩ := a
    have := h (k, q) (by simp)
    simp only [findLine]
    rw [if_neg (by simp at this; omega), ih fun x hx => h x (by simp [hx])]

theorem findLine_eraseLine (n m : Nat) (ls : List (Nat × List Rgb)) (h : linesRising ls = true) :
    findLine m (eraseLine n ls) = if m = n then none else findLine m ls := by
  induction ls with
  | nil => simp [eraseLine, findLine]
  | cons a rest ih =>
    obtain ⟨k, q⟩ := a
    obtain ⟨hlt, hr⟩ := linesRising_cons.mp h
    simp only [eraseLine]
    split
    · next hk =>
      subst hk
      split
      · next hm => subst hm; exact findLine_eq_none_of_lt hlt
      · next hm => simp [findLine, hm]
    · next hk => simp only [findLine, ih hr]; split <;> [(split <;> simp_all); rfl]

@[simp] theorem Page.writeLine_width (p : Page) (y : Nat) (px : List Rgb) : (p.writeLine y px).width = p.width := rfl
@[simp] theorem Page.writeLine_height (p : Page) (y : Nat) (px : List Rgb) : (p.writeLine y px).height = p.height := rfl
@[simp] theorem Page.writeLine_base (p : Page) (y : Nat) (px : List Rgb) : (p.writeLine y px).base = p.base := rfl
@[simp] theorem Page.writeLine_role (p : Page) (y : Nat) (px : List Rgb) : (p.writeLine y px).role = p.role := rfl
@[simp] theorem Page.writeLine_size (p : Page) (y : Nat) (px : List Rgb) : (p.writeLine y px).size = p.size := rfl
@[simp] theorem Page.writeLine_seq (p : Page) (y : Nat) (px : List Rgb) : (p.writeLine y px).seq = p.seq := rfl

/-- R4: the entries after a write. -/
theorem Page.writeLine_lines (p : Page) (y : Nat) (px : List Rgb) :
    (px = List.replicate p.width p.base ∧ (p.writeLine y px).lines = eraseLine y p.lines)
      ∨ (px ≠ List.replicate p.width p.base ∧ (p.writeLine y px).lines = insertLine y px p.lines) := by
  by_cases h : px = List.replicate p.width p.base
  · exact .inl ⟨h, if_pos h⟩
  · exact .inr ⟨h, if_neg h⟩

/-- R4: a line written reads back as it was written. -/
theorem Page.writeLine_line_self (p : Page) (y : Nat) (px : List Rgb) (h : linesRising p.lines = true) :
    (p.writeLine y px).line y = px := by
  obtain ⟨e, el⟩ | ⟨-, el⟩ := p.writeLine_lines y px
  · simp [Page.line, el, findLine_eraseLine _ _ _ h, ← e]
  · simp [Page.line, el, findLine_insertLine _ _ _ _ h]

/-- R4: writing a line leaves every other line as it was. -/
theorem Page.writeLine_line_other (p : Page) (y z : Nat) (px : List Rgb) (h : linesRising p.lines = true) (hz : z ≠ y) :
    (p.writeLine y px).line z = p.line z := by
  obtain ⟨e, el⟩ | ⟨-, el⟩ := p.writeLine_lines y px
  · simp [Page.line, el, findLine_eraseLine _ _ _ h, hz]
  · simp [Page.line, el, findLine_insertLine _ _ _ _ h, hz]

/-! ## The canonical form -/

theorem mem_insertLine {n : Nat} {px : List Rgb} {ls : List (Nat × List Rgb)} {x : Nat × List Rgb}
    (h : x ∈ insertLine n px ls) : x = (n, px) ∨ x ∈ ls := by
  induction ls with
  | nil => simpa [insertLine] using h
  | cons a rest ih =>
    obtain ⟨k, q⟩ := a
    simp only [insertLine] at h
    split at h
    · simpa using h
    · split at h
      · rcases List.mem_cons.mp h with h | h <;> simp [h]
      · rcases List.mem_cons.mp h with h | h
        · simp [h]
        · rcases ih h with h | h <;> simp [h]

theorem mem_eraseLine {n : Nat} {ls : List (Nat × List Rgb)} {x : Nat × List Rgb} (h : x ∈ eraseLine n ls) : x ∈ ls := by
  induction ls with
  | nil => simp [eraseLine] at h
  | cons a rest ih =>
    obtain ⟨k, q⟩ := a
    simp only [eraseLine] at h
    split at h
    · simp [h]
    · rcases List.mem_cons.mp h with h | h
      · simp [h]
      · simp [ih h]

theorem insertLine_rising {n : Nat} {px : List Rgb} {ls : List (Nat × List Rgb)} (h : linesRising ls = true) :
    linesRising (insertLine n px ls) = true := by
  induction ls with
  | nil => rfl
  | cons a rest ih =>
    obtain ⟨k, q⟩ := a
    obtain ⟨hlt, hr⟩ := linesRising_cons.mp h
    simp only [insertLine]
    split
    · next hk =>
      refine linesRising_cons.mpr ⟨?_, h⟩
      intro x hx
      rcases List.mem_cons.mp hx with rfl | hx
      · exact hk
      · have := hlt x hx; omega
    · split
      · next hk => subst hk; exact linesRising_cons.mpr ⟨hlt, hr⟩
      · next h1 h2 =>
        refine linesRising_cons.mpr ⟨?_, ih hr⟩
        intro x hx
        rcases mem_insertLine hx with rfl | hx
        · simp; omega
        · exact hlt x hx

theorem eraseLine_rising {n : Nat} {ls : List (Nat × List Rgb)} (h : linesRising ls = true) :
    linesRising (eraseLine n ls) = true := by
  induction ls with
  | nil => rfl
  | cons a rest ih =>
    obtain ⟨k, q⟩ := a
    obtain ⟨hlt, hr⟩ := linesRising_cons.mp h
    simp only [eraseLine]
    split
    · exact hr
    · exact linesRising_cons.mpr ⟨fun x hx => hlt x (mem_eraseLine hx), ih hr⟩

/-- Page.wf unfolded: lines rise, lie in the raster, have its width, and differ from the base. -/
theorem Page.wf_iff (p : Page) :
    p.wf = true ↔ linesRising p.lines = true
      ∧ ∀ l ∈ p.lines, l.1 < p.height ∧ l.2.length = p.width ∧ l.2 ≠ List.replicate p.width p.base := by
  simp [Page.wf, and_assoc]

/-- A write of a whole line inside the raster keeps the canonical form. -/
theorem Page.writeLine_wf {p : Page} (h : p.wf = true) {y : Nat} {px : List Rgb} (hy : y < p.height)
    (hw : px.length = p.width) : (p.writeLine y px).wf = true := by
  obtain ⟨h1, h2⟩ := (Page.wf_iff p).mp h
  refine (Page.wf_iff _).mpr ?_
  simp only [Page.writeLine_width, Page.writeLine_height, Page.writeLine_base]
  obtain ⟨-, el⟩ | ⟨hne, el⟩ := p.writeLine_lines y px <;> rw [el]
  · exact ⟨eraseLine_rising h1, fun l hl => h2 l (mem_eraseLine hl)⟩
  · refine ⟨insertLine_rising h1, fun l hl => ?_⟩
    rcases mem_insertLine hl with rfl | hl
    · exact ⟨hy, hw, hne⟩
    · exact h2 l hl

/-- A page taken for an input frame is in canonical form. -/
theorem Page.take_wf {p : Page} (h : p.wf = true) (seq : BitVec 16) (w ht : Nat) (fill : Rgb) :
    (p.take seq w ht fill).wf = true := by
  obtain ⟨h1, h2⟩ := (Page.wf_iff p).mp h
  unfold Page.take
  split
  · exact (Page.wf_iff _).mpr ⟨h1, h2⟩
  · exact (Page.wf_iff _).mpr ⟨rfl, by simp⟩

/-- A role change keeps the canonical form. -/
theorem Page.role_wf {p : Page} (h : p.wf = true) (r : PageRole) : { p with role := r }.wf = true := h

/-- Reset's pages are in canonical form. -/
theorem reset_pages_wf (i : Fin 3) : State.reset.store.pages[i].wf = true := by
  revert i; decide

/-! ## Roles -/

@[simp] theorem setRole_getElem (role : PageRole) (i : Fin 3) (pages : Vector Page 3) (j : Nat) (h : j < 3) :
    (setRole role i pages)[j] = if j = i.val then { pages[j] with role := role } else pages[j] := by
  simp only [setRole, modifyAt_getElem]
  split
  · next e => subst e; rfl
  · rfl

@[simp] theorem moveRole_getElem (old new : PageRole) (pages : Vector Page 3) (j : Nat) (h : j < 3) :
    (moveRole old new pages)[j] = if pages[j].role = old then { pages[j] with role := new } else pages[j] := by
  simp [moveRole]

/-- R7: a page found in a role has it, and no lower-numbered page does. -/
theorem pageIn_eq_some {role : PageRole} {pages : Vector Page 3} {i : Fin 3} (h : pageIn role pages = some i) :
    pages[i].role = role ∧ ∀ j : Fin 3, j < i → pages[j].role ≠ role := by
  have h1 := List.find?_some h
  refine ⟨by simpa using h1, ?_⟩
  intro j hj he
  simp only [pageIn, List.finRange_succ, List.finRange_zero, List.map_cons, List.map_nil] at h
  fin_cases i <;> fin_cases j <;> simp_all

/-- R7: no page is in a role. -/
theorem pageIn_eq_none {role : PageRole} {pages : Vector Page 3} :
    pageIn role pages = none ↔ ∀ i : Fin 3, pages[i].role ≠ role := by
  simp [pageIn]

end Sys2Proof.Machine
end

