-- ==== Sys2Proof/Laws/Pixel.lean ====
section
/-! SUPPORT. The lines of a chain and their demand go together line for line, and the demand of a chain is the sum over
its positions (R76, R79, R81, R82). -/

namespace Sys2Proof.Machine

/-- R76: one list of demands for each line sent. -/
theorem positionDemands_length (l : FrameLatch) (pages : Vector Page 3) (c : Fin 8) (roster : List Identity)
    (i : Fin 16) :
    (positionDemands l pages c roster i).length = (positionLines l pages c roster i).length := by
  unfold positionDemands positionLines
  simp only
  split <;> simp_all [pictureDemands, pictureLines, zeroLines]

theorem lineDemands_length (l : FrameLatch) (pages : Vector Page 3) (c : Fin 8) (roster : List Identity) :
    (lineDemands l pages c roster).length = (chainLines l pages c roster).length := by
  simp [lineDemands, chainLines, List.length_flatMap, positionDemands_length]

/-- R76: the demand of a chain, position by position. -/
theorem chainDemand_eq (l : FrameLatch) (pages : Vector Page 3) (c : Fin 8) (roster : List Identity) :
    chainDemand l pages c roster = ((List.finRange 16).map fun i => (positionDemands l pages c roster i).flatten.sum).sum := by
  simp only [chainDemand, lineDemands]
  induction List.finRange 16 with
  | nil => rfl
  | cons i is ih => simp [ih]

/-- R76: the demand of a MAPPED tile, pixel by pixel. -/
theorem pictureDemands_sum (l : FrameLatch) (pages : Vector Page 3) (e : TileEntry) (t : TileType) :
    (pictureDemands l pages e t).flatten.sum =
      ((List.range t.height).map fun v =>
        ((List.range t.width).map fun u => pixelCurrent t.k (pixelDemand l pages e t u v)).sum).sum := by
  simp only [pictureDemands]
  induction List.range t.height with
  | nil => rfl
  | cons v vs ih => simp [ih]

/-- R82: no more lines are kept than there are, and a chain that has sent everything keeps every line and the whole
demand. -/
theorem linesWithin_le {α : Type} (n : Nat) (lines : List (List α)) : linesWithin n lines ≤ lines.length := by
  induction lines generalizing n with
  | nil => simp [linesWithin]
  | cons x xs ih => simp only [linesWithin]; split <;> simp [ih]

theorem linesWithin_all {α : Type} (n : Nat) (lines : List (List α)) (h : lines.flatten.length ≤ n) :
    linesWithin n lines = lines.length := by
  induction lines generalizing n with
  | nil => rfl
  | cons x xs ih =>
    simp only [List.flatten_cons, List.length_append] at h
    simp [linesWithin, ih (n - x.length) (by omega), show x.length ≤ n by omega]

theorem demandWithin_all (n : Nat) (demands : List (List Nat)) (h : demands.flatten.length ≤ n) :
    demandWithin n demands = demands.flatten.sum := by
  rw [demandWithin, List.take_of_length_le h]

end Sys2Proof.Machine
end

