-- ==== Sys2Proof/Laws/Rows.lean ====
section
/-! SUPPORT. What each command row does once its command is taken, said once per row, and the row as the command taken
event of its own entries. -/

namespace Sys2Proof.Machine

/-- Every command row is the command taken event of its own entries (R165). -/
theorem exec_command (i : Instr) (hi : i ∈ commandRows) (s : State) :
    ∃ run, exec i s = takeCommand (rowTakes i) run s := by
  simp only [commandRows, List.mem_cons, List.not_mem_nil, or_false] at hi
  rcases hi with
    rfl | rfl | rfl | rfl | rfl | rfl | rfl | rfl | rfl | rfl | rfl | rfl | rfl | rfl | rfl | rfl |
    rfl | rfl | rfl | rfl | rfl | rfl | rfl | rfl | rfl | rfl | rfl | rfl | rfl | rfl | rfl | rfl |
    rfl | rfl | rfl | rfl | rfl | rfl | rfl | rfl | rfl | rfl | rfl | rfl
  · unfold exec execUnknownCommand; exact ⟨_, rfl⟩
  · unfold exec execReadIdentity takeCode; exact ⟨_, rfl⟩
  · unfold exec execReadStatus takeCode; exact ⟨_, rfl⟩
  · unfold exec execSetAddresses takeCode; exact ⟨_, rfl⟩
  · unfold exec execSoftReset; exact ⟨_, rfl⟩
  · unfold exec execTablesReset; exact ⟨_, rfl⟩
  · unfold exec execSetInput takeCode; exact ⟨_, rfl⟩
  · unfold exec execSetOutput takeCode; exact ⟨_, rfl⟩
  · unfold exec execReadInput takeCode; exact ⟨_, rfl⟩
  · unfold exec execWriteTiles takeCode; exact ⟨_, rfl⟩
  · unfold exec execWriteProfiles takeCode; exact ⟨_, rfl⟩
  · unfold exec execWriteCurve takeCode; exact ⟨_, rfl⟩
  · unfold exec execWriteRegions takeCode; exact ⟨_, rfl⟩
  · unfold exec execSetLookFields takeCode; exact ⟨_, rfl⟩
  · unfold exec execClearStaged takeCode; exact ⟨_, rfl⟩
  · unfold exec execCopyActive takeCode; exact ⟨_, rfl⟩
  · unfold exec execCheckLook takeCode; exact ⟨_, rfl⟩
  · unfold exec execReadLook takeCode; exact ⟨_, rfl⟩
  · unfold exec execWriteTileType takeCode; exact ⟨_, rfl⟩
  · unfold exec execSetChain takeCode; exact ⟨_, rfl⟩
  · unfold exec execRestartChain takeCode; exact ⟨_, rfl⟩
  · unfold exec execReadRoster takeCode; exact ⟨_, rfl⟩
  · unfold exec execSetMaster takeCode; exact ⟨_, rfl⟩
  · unfold exec execSetThermal takeCode; exact ⟨_, rfl⟩
  · unfold exec execReadThermal takeCode; exact ⟨_, rfl⟩
  · unfold exec execAddCue takeCode; exact ⟨_, rfl⟩
  · unfold exec execCancelCue takeCode; exact ⟨_, rfl⟩
  · unfold exec execClearCues takeCode; exact ⟨_, rfl⟩
  · unfold exec execReadCues takeCode; exact ⟨_, rfl⟩
  · unfold exec execSetGuard takeCode; exact ⟨_, rfl⟩
  · unfold exec execWriteFixtures takeCode; exact ⟨_, rfl⟩
  · unfold exec execDeleteFixture takeCode; exact ⟨_, rfl⟩
  · unfold exec execBeginScene takeCode; exact ⟨_, rfl⟩
  · unfold exec execSceneEntries takeCode; exact ⟨_, rfl⟩
  · unfold exec execDeleteScene takeCode; exact ⟨_, rfl⟩
  · unfold exec execSetLightMaster takeCode; exact ⟨_, rfl⟩
  · unfold exec execReadFixtures takeCode; exact ⟨_, rfl⟩
  · unfold exec execReadScene takeCode; exact ⟨_, rfl⟩
  · unfold exec execSetLine takeCode; exact ⟨_, rfl⟩
  · unfold exec execReadFollow takeCode; exact ⟨_, rfl⟩
  · unfold exec execClearEvents takeCode; exact ⟨_, rfl⟩
  · unfold exec execSetNotice takeCode; exact ⟨_, rfl⟩
  · unfold exec execClearFaults takeCode; exact ⟨_, rfl⟩
  · unfold exec execReadCounters takeCode; exact ⟨_, rfl⟩

theorem exec_unknownCommand {s : State} {e : Entry} {rest : List Entry} (h : Takes s e rest)
    (hc : (!catalogue.contains e.code) = true) :
    exec .unknownCommand s =
      .next (answer e
        ((fun _ s => refuse .badCommand s)
          e.payload (beginCommand e rest s))) := by
  unfold exec execUnknownCommand; exact takeCommand_takes h hc

theorem exec_readIdentity {s : State} {e : Entry} {rest : List Entry} (h : Takes s e rest)
    (hc : e.code = 0x01) :
    exec .readIdentity s =
      .next (answer e
        ((fun p s => needLength 0 p s <| report (identityData s.pins) s)
          e.payload (beginCommand e rest s))) := by
  unfold exec execReadIdentity; exact takeCode_takes h hc

theorem exec_readStatus {s : State} {e : Entry} {rest : List Entry} (h : Takes s e rest)
    (hc : e.code = 0x02) :
    exec .readStatus s =
      .next (answer e
        ((fun p s => needLength 0 p s <| report (statusData s) s)
          e.payload (beginCommand e rest s))) := by
  unfold exec execReadStatus; exact takeCode_takes h hc

theorem exec_setAddresses {s : State} {e : Entry} {rest : List Entry} (h : Takes s e rest)
    (hc : e.code = 0x03) :
    exec .setAddresses s =
      .next (answer e
        ((fun p s => needLength 4 p s <|
            needFields (readAddresses p s.intake) s fun i => done { s with intake := i })
          e.payload (beginCommand e rest s))) := by
  unfold exec execSetAddresses; exact takeCode_takes h hc

theorem exec_softReset {s : State} {e : Entry} {rest : List Entry} (h : Takes s e rest)
    (hc : namesSoft e = true) :
    exec .softReset s =
      .next (answer e
        (resetUnit
          e.payload (beginCommand e rest s))) := by
  unfold exec execSoftReset; exact takeCommand_takes h hc

theorem exec_tablesReset {s : State} {e : Entry} {rest : List Entry} (h : Takes s e rest)
    (hc : namesTables e = true) :
    exec .tablesReset s =
      .next (answer e
        (resetUnit
          e.payload (beginCommand e rest s))) := by
  unfold exec execTablesReset; exact takeCommand_takes h hc

theorem exec_setInput {s : State} {e : Entry} {rest : List Entry} (h : Takes s e rest)
    (hc : e.code = 0x10) :
    exec .setInput s =
      .next (answer e
        ((fun p s => needLength 9 p s <| needUnguarded s <| needFields (readInputFields p s.store) s fun st =>
            done { s with store := st })
          e.payload (beginCommand e rest s))) := by
  unfold exec execSetInput; exact takeCode_takes h hc

theorem exec_setOutput {s : State} {e : Entry} {rest : List Entry} (h : Takes s e rest)
    (hc : e.code = 0x11) :
    exec .setOutput s =
      .next (answer e
        ((fun p s => needLength 1 p s <| needUnguarded s <| need (u8 p 0 ≤ 7) .badArgument s <|
            done { s with timing := { s.timing with pendingRate := some (BitVec.ofNat 3 (u8 p 0)) } })
          e.payload (beginCommand e rest s))) := by
  unfold exec execSetOutput; exact takeCode_takes h hc

theorem exec_readInput {s : State} {e : Entry} {rest : List Entry} (h : Takes s e rest)
    (hc : e.code = 0x12) :
    exec .readInput s =
      .next (answer e
        ((fun p s => needLength 0 p s <| report (inputData s) s)
          e.payload (beginCommand e rest s))) := by
  unfold exec execReadInput; exact takeCode_takes h hc

theorem exec_writeTiles {s : State} {e : Entry} {rest : List Entry} (h : Takes s e rest)
    (hc : e.code = 0x20) :
    exec .writeTiles s =
      .next (answer e
        ((fun p s => needCount 1 2 16 p s <| need (runOk p 63 128) .badArgument s <|
            needFields (readRecords readTile 16 (u8 p 1) (p.drop 2)) s fun tiles => needNotChecking s <|
              writeStaged { s.looks.stagedLook with tiles := writeRun s.looks.stagedLook.tiles (u8 p 0) tiles } s)
          e.payload (beginCommand e rest s))) := by
  unfold exec execWriteTiles; exact takeCode_takes h hc

theorem exec_writeProfiles {s : State} {e : Entry} {rest : List Entry} (h : Takes s e rest)
    (hc : e.code = 0x21) :
    exec .writeProfiles s =
      .next (answer e
        ((fun p s => needCount 1 2 6 p s <| need (runOk p 64 64) .badArgument s <|
            needFields (readRecords readProfile 6 (u8 p 1) (p.drop 2)) s fun profiles => needNotChecking s <|
              writeStaged { s.looks.stagedLook with profiles := writeRun s.looks.stagedLook.profiles (u8 p 0) profiles } s)
          e.payload (beginCommand e rest s))) := by
  unfold exec execWriteProfiles; exact takeCode_takes h hc

theorem exec_writeCurve {s : State} {e : Entry} {rest : List Entry} (h : Takes s e rest)
    (hc : e.code = 0x22) :
    exec .writeCurve s =
      .next (answer e
        ((fun p s => needLength 67 p s <| need (u8 p 0 ≤ 7) .badArgument s <| needNotChecking s <|
            writeStaged { s.looks.stagedLook with curves := writeRun s.looks.stagedLook.curves (u8 p 0) [curveOf p] } s)
          e.payload (beginCommand e rest s))) := by
  unfold exec execWriteCurve; exact takeCode_takes h hc

theorem exec_writeRegions {s : State} {e : Entry} {rest : List Entry} (h : Takes s e rest)
    (hc : e.code = 0x23) :
    exec .writeRegions s =
      .next (answer e
        ((fun p s => needCount 1 2 8 p s <| need (runOk p 16 16) .badArgument s <|
            needFields (readRecords readRegion 8 (u8 p 1) (p.drop 2)) s fun regions => needNotChecking s <|
              writeStaged { s.looks.stagedLook with regions := writeRun s.looks.stagedLook.regions (u8 p 0) regions } s)
          e.payload (beginCommand e rest s))) := by
  unfold exec execWriteRegions; exact takeCode_takes h hc

theorem exec_setLookFields {s : State} {e : Entry} {rest : List Entry} (h : Takes s e rest)
    (hc : e.code = 0x24) :
    exec .setLookFields s =
      .next (answer e
        ((fun p s => needLength 10 p s <| needFields (readCode p 0) s fun border => needNotChecking s <|
            writeStaged { s.looks.stagedLook with border := border, label := BitVec.ofNat 32 (u32 p 6) } s)
          e.payload (beginCommand e rest s))) := by
  unfold exec execSetLookFields; exact takeCode_takes h hc

theorem exec_clearStaged {s : State} {e : Entry} {rest : List Entry} (h : Takes s e rest)
    (hc : e.code = 0x25) :
    exec .clearStaged s =
      .next (answer e
        ((fun p s => needLength 0 p s <|
            needNotChecking s <| writeStaged Look.default s)
          e.payload (beginCommand e rest s))) := by
  unfold exec execClearStaged; exact takeCode_takes h hc

theorem exec_copyActive {s : State} {e : Entry} {rest : List Entry} (h : Takes s e rest)
    (hc : e.code = 0x26) :
    exec .copyActive s =
      .next (answer e
        ((fun p s => needLength 0 p s <| needNotChecking s <|
            done { s with looks := { s.looks.setStaged s.looks.active with staged := .checked } })
          e.payload (beginCommand e rest s))) := by
  unfold exec execCopyActive; exact takeCode_takes h hc

theorem exec_checkLook {s : State} {e : Entry} {rest : List Entry} (h : Takes s e rest)
    (hc : e.code = 0x27) :
    exec .checkLook s =
      .next (answer e
        ((fun p s => needLength 0 p s <| needNotChecking s <|
            { state := beginCheck s, result := .accepted, data := [] })
          e.payload (beginCommand e rest s))) := by
  unfold exec execCheckLook; exact takeCode_takes h hc

theorem exec_readLook {s : State} {e : Entry} {rest : List Entry} (h : Takes s e rest)
    (hc : e.code = 0x28) :
    exec .readLook s =
      .next (answer e
        ((fun p s => needLength 4 p s <|
            needFields (lookData p s.looks) s fun data => report data s)
          e.payload (beginCommand e rest s))) := by
  unfold exec execReadLook; exact takeCode_takes h hc

theorem exec_writeTileType {s : State} {e : Entry} {rest : List Entry} (h : Takes s e rest)
    (hc : e.code = 0x29) :
    exec .writeTileType s =
      .next (answer e
        ((fun p s => needLength 15 p s <| needUnguarded s <| need (u8 p 0 ≤ 7) .badArgument s <|
            needFields (readTileType p) s fun entry => need (!typeInUse s.looks (u8 p 0)) .inUse s <|
              done { s with looks := { s.looks with types := writeRun s.looks.types (u8 p 0) [entry] } })
          e.payload (beginCommand e rest s))) := by
  unfold exec execWriteTileType; exact takeCode_takes h hc

theorem exec_setChain {s : State} {e : Entry} {rest : List Entry} (h : Takes s e rest)
    (hc : e.code = 0x30) :
    exec .setChain s =
      .next (answer e
        ((fun p s => needLength 9 p s <| needUnguarded s <| needFields (readChainConfig p) s fun x =>
            done (configureChain x.1 x.2 s))
          e.payload (beginCommand e rest s))) := by
  unfold exec execSetChain; exact takeCode_takes h hc

theorem exec_restartChain {s : State} {e : Entry} {rest : List Entry} (h : Takes s e rest)
    (hc : e.code = 0x31) :
    exec .restartChain s =
      .next (answer e
        ((fun p s => needLength 1 p s <| needUnguarded s <| needFields (readChain p) s fun c =>
            need (s.ports[c].state != .off) .notReady s <| done ((leaveRun c s).modifyPort c ChainPort.restart))
          e.payload (beginCommand e rest s))) := by
  unfold exec execRestartChain; exact takeCode_takes h hc

theorem exec_readRoster {s : State} {e : Entry} {rest : List Entry} (h : Takes s e rest)
    (hc : e.code = 0x32) :
    exec .readRoster s =
      .next (answer e
        ((fun p s => needLength 1 p s <|
            needFields (readChain p) s fun c => report (rosterData s c) s)
          e.payload (beginCommand e rest s))) := by
  unfold exec execReadRoster; exact takeCode_takes h hc

theorem exec_setMaster {s : State} {e : Entry} {rest : List Entry} (h : Takes s e rest)
    (hc : e.code = 0x40) :
    exec .setMaster s =
      .next (answer e
        ((fun p s => needLength 4 p s <|
            need (u16 p 0 ≤ 4096) .badArgument s <| done (beginMaster (u16 p 0) (u16 p 2) s))
          e.payload (beginCommand e rest s))) := by
  unfold exec execSetMaster; exact takeCode_takes h hc

theorem exec_setThermal {s : State} {e : Entry} {rest : List Entry} (h : Takes s e rest)
    (hc : e.code = 0x48) :
    exec .setThermal s =
      .next (answer e
        ((fun p s => needLength 14 p s <| needFields (readThermalConfig p) s fun cfg =>
            done { s with thermal := setThermal cfg s.thermal })
          e.payload (beginCommand e rest s))) := by
  unfold exec execSetThermal; exact takeCode_takes h hc

theorem exec_readThermal {s : State} {e : Entry} {rest : List Entry} (h : Takes s e rest)
    (hc : e.code = 0x49) :
    exec .readThermal s =
      .next (answer e
        ((fun p s => needLength 0 p s <| report (thermalData s.thermal) s)
          e.payload (beginCommand e rest s))) := by
  unfold exec execReadThermal; exact takeCode_takes h hc

theorem exec_addCue {s : State} {e : Entry} {rest : List Entry} (h : Takes s e rest)
    (hc : e.code = 0x50) :
    exec .addCue s =
      .next (answer e
        ((fun p s => needLength 45 p s <| needFields (readCue p) s fun c =>
            need (horizonOk s.timing.frame c.trigger) .badArgument s <|
              need (decide (s.cues.queue.length < Config.cueSize)) .full s <|
                need (!hasCue c.id s.cues.queue) .duplicate s <| placeCue c s)
          e.payload (beginCommand e rest s))) := by
  unfold exec execAddCue; exact takeCode_takes h hc

theorem exec_cancelCue {s : State} {e : Entry} {rest : List Entry} (h : Takes s e rest)
    (hc : e.code = 0x51) :
    exec .cancelCue s =
      .next (answer e
        ((fun p s => needLength 2 p s <| need (u16 p 0 != 0) .badArgument s <|
            need (hasCue (u16 p 0) s.cues.queue) .notFound s <| done (removeCue (u16 p 0) s))
          e.payload (beginCommand e rest s))) := by
  unfold exec execCancelCue; exact takeCode_takes h hc

theorem exec_clearCues {s : State} {e : Entry} {rest : List Entry} (h : Takes s e rest)
    (hc : e.code = 0x52) :
    exec .clearCues s =
      .next (answer e
        ((fun p s => needLength 0 p s <| needUnguarded s <|
            report (be1 s.cues.queue.length) { s with cues := { s.cues with queue := [] } })
          e.payload (beginCommand e rest s))) := by
  unfold exec execClearCues; exact takeCode_takes h hc

theorem exec_readCues {s : State} {e : Entry} {rest : List Entry} (h : Takes s e rest)
    (hc : e.code = 0x53) :
    exec .readCues s =
      .next (answer e
        ((fun p s => needLength 2 p s <|
            need (u8 p 1 != 0 && decide (u8 p 1 ≤ 8) && decide (u8 p 0 + u8 p 1 ≤ 32)) .badArgument s <|
              report (cuesData s (u8 p 0) (u8 p 1)) s)
          e.payload (beginCommand e rest s))) := by
  unfold exec execReadCues; exact takeCode_takes h hc

theorem exec_setGuard {s : State} {e : Entry} {rest : List Entry} (h : Takes s e rest)
    (hc : e.code = 0x54) :
    exec .setGuard s =
      .next (answer e
        ((fun p s => needLength 1 p s <|
            needFields (readYesNo p 0) s fun g => done { s with cues := { s.cues with guard := g } })
          e.payload (beginCommand e rest s))) := by
  unfold exec execSetGuard; exact takeCode_takes h hc

theorem exec_writeFixtures {s : State} {e : Entry} {rest : List Entry} (h : Takes s e rest)
    (hc : e.code = 0x60) :
    exec .writeFixtures s =
      .next (answer e
        ((fun p s => needCount 0 1 12 p s <| needUnguarded s <| need (u8 p 0 != 0 && decide (u8 p 0 ≤ 16)) .badArgument s <|
            needFields (readRecords readFixture 12 (u8 p 0) (p.drop 1)) s fun records =>
              need (decide (records.map Prod.fst).Nodup) .duplicate s <|
                need (!anyConflict (writtenTable s.lights.fixtures records)) .conflict s <| done (writeFixtures records s))
          e.payload (beginCommand e rest s))) := by
  unfold exec execWriteFixtures; exact takeCode_takes h hc

theorem exec_deleteFixture {s : State} {e : Entry} {rest : List Entry} (h : Takes s e rest)
    (hc : e.code = 0x61) :
    exec .deleteFixture s =
      .next (answer e
        ((fun p s => needLength 1 p s <| needUnguarded s <|
            needFields (if h : u8 p 0 < 96 then some (⟨u8 p 0, h⟩ : Fin 96) else none) s fun x =>
              need s.lights.fixtures[x].present .notFound s <| done (deleteFixture x s))
          e.payload (beginCommand e rest s))) := by
  unfold exec execDeleteFixture; exact takeCode_takes h hc

theorem exec_beginScene {s : State} {e : Entry} {rest : List Entry} (h : Takes s e rest)
    (hc : e.code = 0x62) :
    exec .beginScene s =
      .next (answer e
        ((fun p s => needLength 3 p s <|
            needFields (if u16 p 1 ≠ 0 ∧ u16 p 1 ≤ 512 then readSceneNumber p else none) s fun x =>
              need (!s.lights.scenes[x].isBuilding) .notReady s <|
                need (u16 p 1 ≤ poolFree s.lights.scenes + s.lights.scenes[x].counted) .full s <| beginScene x (u16 p 1) s)
          e.payload (beginCommand e rest s))) := by
  unfold exec execBeginScene; exact takeCode_takes h hc

theorem exec_sceneEntries {s : State} {e : Entry} {rest : List Entry} (h : Takes s e rest)
    (hc : e.code = 0x63) :
    exec .sceneEntries s =
      .next (answer e
        ((fun p s => needCount 1 2 10 p s <| need (u8 p 1 != 0 && decide (u8 p 1 ≤ 64)) .badArgument s <|
            needFields (readSceneNumber p) s fun x => needFields (readRecords readSceneEntry 10 (u8 p 1) (p.drop 2)) s fun entries =>
              need s.lights.scenes[x].isBuilding .notReady s <|
                need (entries.length ≤ s.lights.scenes[x].expected - s.lights.scenes[x].entries.length) .badArgument s <|
                  need (!entriesRepeat s.lights.scenes[x].entries entries) .duplicate s <| appendEntries x entries s)
          e.payload (beginCommand e rest s))) := by
  unfold exec execSceneEntries; exact takeCode_takes h hc

theorem exec_deleteScene {s : State} {e : Entry} {rest : List Entry} (h : Takes s e rest)
    (hc : e.code = 0x64) :
    exec .deleteScene s =
      .next (answer e
        ((fun p s => needLength 1 p s <|
            needFields (readSceneNumber p) s fun x => done (s.setScene x .empty))
          e.payload (beginCommand e rest s))) := by
  unfold exec execDeleteScene; exact takeCode_takes h hc

theorem exec_setLightMaster {s : State} {e : Entry} {rest : List Entry} (h : Takes s e rest)
    (hc : e.code = 0x65) :
    exec .setLightMaster s =
      .next (answer e
        ((fun p s => needLength 4 p s <| need (u16 p 0 ≤ 4096) .badArgument s <|
            done (beginLightMaster (u16 p 0) (u16 p 2) s))
          e.payload (beginCommand e rest s))) := by
  unfold exec execSetLightMaster; exact takeCode_takes h hc

theorem exec_readFixtures {s : State} {e : Entry} {rest : List Entry} (h : Takes s e rest)
    (hc : e.code = 0x66) :
    exec .readFixtures s =
      .next (answer e
        ((fun p s => needLength 2 p s <| need (fixtureRangeOk p) .badArgument s <|
            report (fixturesData s.lights (u8 p 0) (u8 p 1)) s)
          e.payload (beginCommand e rest s))) := by
  unfold exec execReadFixtures; exact takeCode_takes h hc

theorem exec_readScene {s : State} {e : Entry} {rest : List Entry} (h : Takes s e rest)
    (hc : e.code = 0x67) :
    exec .readScene s =
      .next (answer e
        ((fun p s => needLength 4 p s <|
            needFields (if u16 p 1 ≤ 511 ∧ u8 p 3 ≠ 0 ∧ u8 p 3 ≤ 64 then readSceneNumber p else none) s fun x =>
              report (sceneData s.lights.scenes x (u16 p 1) (u8 p 3)) s)
          e.payload (beginCommand e rest s))) := by
  unfold exec execReadScene; exact takeCode_takes h hc

theorem exec_setLine {s : State} {e : Entry} {rest : List Entry} (h : Takes s e rest)
    (hc : e.code = 0x70) :
    exec .setLine s =
      .next (answer e
        ((fun p s => needLength 4 p s <| needUnguarded s <| needFields (readLineConfig p) s fun x =>
            done { s with follow := { s.follow with lines := s.follow.lines.set x.1 x.2 } })
          e.payload (beginCommand e rest s))) := by
  unfold exec execSetLine; exact takeCode_takes h hc

theorem exec_readFollow {s : State} {e : Entry} {rest : List Entry} (h : Takes s e rest)
    (hc : e.code = 0x71) :
    exec .readFollow s =
      .next (answer e
        ((fun p s => needLength 2 p s <| need (fixtureRangeOk p) .badArgument s <|
            report (followData s (u8 p 0) (u8 p 1)) s)
          e.payload (beginCommand e rest s))) := by
  unfold exec execReadFollow; exact takeCode_takes h hc

theorem exec_clearEvents {s : State} {e : Entry} {rest : List Entry} (h : Takes s e rest)
    (hc : e.code = 0x78) :
    exec .clearEvents s =
      .next (answer e
        ((fun p s => needLength 3 p s <|
            report (flagsData s.events) { s with events := { s.events with flags := s.events.flags &&& ~~~(eventMask p) } })
          e.payload (beginCommand e rest s))) := by
  unfold exec execClearEvents; exact takeCode_takes h hc

theorem exec_setNotice {s : State} {e : Entry} {rest : List Entry} (h : Takes s e rest)
    (hc : e.code = 0x79) :
    exec .setNotice s =
      .next (answer e
        ((fun p s => needLength 9 p s <|
            need (u8 p 7 != 0 && decide (u8 p 7 ≤ 16) && u8 p 8 != 0) .badArgument s <|
              needFields (readEnables p) s fun e =>
                done
                  (dueTest
                    { s with events := { s.events with enables := e, countThreshold := u8 p 7, frameThreshold := u8 p 8 } }))
          e.payload (beginCommand e rest s))) := by
  unfold exec execSetNotice; exact takeCode_takes h hc

theorem exec_clearFaults {s : State} {e : Entry} {rest : List Entry} (h : Takes s e rest)
    (hc : e.code = 0x7A) :
    exec .clearFaults s =
      .next (answer e
        ((fun p s => needLength 0 p s <|
            report (faultData (clearFaults s)) (clearFaults s))
          e.payload (beginCommand e rest s))) := by
  unfold exec execClearFaults; exact takeCode_takes h hc

theorem exec_readCounters {s : State} {e : Entry} {rest : List Entry} (h : Takes s e rest)
    (hc : e.code = 0x7B) :
    exec .readCounters s =
      .next (answer e
        ((fun p s => needLength 3 p s <| needFields (readCounterSet p) s fun set => needFields (readYesNo p 2) s fun clear =>
            report ((countersOf s set).flatMap Counter.bytes) (if clear then clearSet s set else s))
          e.payload (beginCommand e rest s))) := by
  unfold exec execReadCounters; exact takeCode_takes h hc

end Sys2Proof.Machine
end

