-- ==== Sys2Proof/Tests/Slice0.lean ====
section
/-! SUPPORT. Tests of my own: the manual's worked examples, the ill-formed rows that WellFormed refuses, single rows on
small states, and for each statement with hypotheses a witness that meets them. -/

namespace Sys2Proof.Tests
open Sys2Proof Sys2Proof.Machine

/-! ## Ill-formed rows -/

theorem test_ill_formed_empty : (Instr.unknownForwardPacket []).wellFormed = false := by decide
theorem test_ill_formed_marker : (Instr.unknownForwardPacket [1, 0, 1, 0, 64, 0, 64]).wellFormed = false := by decide
theorem test_ill_formed_line : (Instr.unknownForwardPacket [2, 0, 1, 0, 64, 0, 64]).wellFormed = false := by decide
theorem test_ill_formed_margin : (Instr.unknownForwardPacket [3, 0]).wellFormed = false := by decide
theorem test_ill_formed_identity : (Instr.identityArrival 0 []).wellFormed = false := by decide
theorem test_ill_formed_report : (Instr.tileReportArrival 0 []).wellFormed = false := by decide
theorem test_ill_formed_pass : (Instr.passPacketArrival []).wellFormed = false := by decide
theorem test_well_formed_other : (Instr.unknownForwardPacket [4, 0]).wellFormed = true := by decide

/-! ## The manual's numbers -/

set_option maxRecDepth 4000 in
/-- R181 names the CRC-16 by its check value over the nine characters 1 to 9. -/
theorem test_crc : crc16 [0x31, 0x32, 0x33, 0x34, 0x35, 0x36, 0x37, 0x38, 0x39] = 0x29B1 := by decide

/-- Table 4-8, the R, G and B columns: level, then gained level. -/
theorem test_gain :
    [gainLevel 9875 30000, gainLevel 6831 33000, gainLevel 2981 29000] = [9041, 6879, 2638] := by decide

/-- 4.16: a saturating gain. -/
theorem test_gain_limit : gainLevel 50000 45000 = 65535 := by decide

/-- Table 4-9: limiter and quantisation at full white. -/
theorem test_full_white : (scaleBy 65535 2500, quantise 12 39999) = (39999, 2499) := by decide

/-- Table 4-12: source code 4095 on the default curve, and its drive at the four depths. -/
theorem test_default_curve :
    (curveLevel Look.defaultCurve 4095, [8, 10, 12, 16].map fun n => quantise n 65519) =
      (65519, [255, 1023, 4094, 65519]) := by decide

/-- Table 4-10: tile pixel (3, 5) under each orientation. -/
theorem test_orientation :
    [Orientation.normal, .rot180, .mirrorH, .mirrorV].map
        (fun o => sourcePixel { TileEntry.blank with x := 100, y := 40, orientation := o } 16 16 3 5) =
      [(103, 45), (112, 50), (112, 45), (103, 50)] := by decide

/-- 05, Table 5-1: two ramps. -/
theorem test_ramp :
    [interpolate 4096 0 1 4, interpolate 4096 0 2 4, interpolate 2048 4096 1 2] = [3072, 2048, 3072] := by decide

/-- 05, Tables 5-2 and 5-3: targets and steps of a limiter. -/
theorem test_limiter :
    (12000 * 4096 / 19660, limiterScale 4096 2500 64, limiterScale 2500 4096 64, limiterScale 625 1250 64) =
      (2500, 2500, 2564, 689) := by decide

/-- Table 8-6: fades down and up. -/
theorem test_fade :
    [interpolate 0 40000 1 25, interpolate 20000 65535 10 25, interpolate 16000 10000 1 4] = [1600, 38214, 14500] := by
  decide

/-- Table 9-3, Table 9-4: follow steps of a quarter, and the slots of fixture 30. -/
theorem test_follow :
    (followStep 32776 20000 64, followStep 16388 20000 64, followStep 0 11250 64,
      slot8 (foldIntensity 30000 23194)) = (3194, -903, -2812, [41]) := by decide

/-! ## Single rows on small states -/

/-- A state with one direct command waiting in the intake queue. -/
def waiting (code : Byte) (payload : List Byte) : State :=
  { State.reset with
    intake := { State.reset.intake with queue := [{ kind := .direct, dest := 0x40, code := code, tag := 9, payload := payload }] } }

/-- The entry of that state. -/
def entry (code : Byte) (payload : List Byte) : Entry :=
  { kind := .direct, dest := 0x40, code := code, tag := 9, payload := payload }

/-- What is seen of a next state. -/
def seen {α : Type} (f : State → α) (o : Host.Outcome State Fault Refusal) : Option α :=
  match o with
  | .next t => some (f t)
  | .fault _ => none
  | .refused _ => none

/-- The result code of the reply being sent. -/
def resultSent (t : State) : Byte := (t.ret.sending.getD []).getD 5 0

theorem test_idle : step State.reset = .next State.reset := rfl

theorem test_step_takes_front :
    seen (fun t => (t.pins.tally, t.pending)) (step (State.reset.setPending [.tallyRisingEdge, .refPulse])) =
      some (true, [.refPulse]) := by decide

theorem test_decode_none : decodeTableWord 16 0x0140 = none := rfl

theorem test_fetch_word : State.reset.withFetchWord 16 0x0140 = State.reset := rfl

theorem test_bad_command : seen resultSent (exec .unknownCommand (waiting 0x05 [])) = some 0x81 := by decide

theorem test_bad_length : seen resultSent (exec .setGuard (waiting 0x54 [])) = some 0x82 := by decide

theorem test_identity_reply :
    seen (fun t => (t.ret.sending.getD []).take 15) (exec .readIdentity (waiting 0x01 [])) =
      some [0x81, 0x40, 0x10, 0x01, 9, 0x00, 0, 7, 0x48, 0x5A, 0x0D, 0x58, 2, 0, 0] := by decide

theorem test_set_guard : seen (fun t => t.cues.guard) (exec .setGuard (waiting 0x54 [1])) = some true := by decide

theorem test_set_addresses :
    seen (fun t => (t.intake.slot1, t.intake.slot2, t.intake.mask)) (exec .setAddresses (waiting 0x03 [0x41, 0, 0x80, 0xF0])) =
      some (some 0x41, none, 0xF0) := by decide

theorem test_set_master_out_of_range : seen resultSent (exec .setMaster (waiting 0x40 [0x10, 0x01, 0, 0])) = some 0x84 := by
  decide

theorem test_set_master : seen (fun t => t.power.ramp.target) (exec .setMaster (waiting 0x40 [0x10, 0x00, 0, 4])) = some 4096 := by
  decide

theorem test_check_look : seen (fun t => (t.looks.staged, resultSent t)) (exec .checkLook (waiting 0x27 [])) =
    some (.checking, 0x02) := by decide

theorem test_restart_off : seen resultSent (exec .restartChain (waiting 0x31 [0])) = some 0x8D := by decide

theorem test_set_chain_probe :
    seen (fun t => t.ports[(7 : Fin 8)].state) (exec .setChain (waiting 0x30 [7, 1, 0, 25, 8, 0xFF, 0xFF, 0x10, 0x00])) =
      some .probe := by decide

theorem test_cancel_missing : seen resultSent (exec .cancelCue (waiting 0x51 [0, 7])) = some 0x8C := by decide

theorem test_marker_takes_page :
    seen (fun t => (t.link.assembly, t.store.pages[(0 : Fin 3)].role, t.store.pages[(0 : Fin 3)].size))
      (exec (.frameStartMarker 11 64 64) State.reset) = some (.open, .write, some (64, 64)) := by decide

theorem test_marker_rejected :
    seen (fun t => (t.link.assembly, t.events.has .formatRejected)) (exec (.frameStartMarker 11 63 64) State.reset) =
      some (.rejected, true) := by decide

theorem test_margin_framing :
    seen (fun t => t.intake.framing.value) (exec (.marginPacket [0x40, 1, 9, 0, 1, 0, 0]) State.reset) = some 1 := by decide

theorem test_ref_loss_unlocked : exec .refLossTimeout State.reset = .next State.reset := rfl

theorem test_pass_sent :
    seen (fun t => t.ret.sending) (exec (.passPacketArrival [0x82, 1]) State.reset) = some (some [0x82, 1]) := by decide

/-- R175: the pending and the frame count after two raisings of one frame end, with the event unit's count before them,
between them and behind them. -/
theorem test_count_among_raisings :
    let s := { State.reset with events := { State.reset.events with enables := 0x7F, countThreshold := 16, frameThreshold := 255 } }
    let after (n : Nat) : State := (EndWork.actAll { state := s, left := some n } [raise .swapDone, raise .cueFired]).finish
    [0, 1, 2].map (fun n => ((after n).events.pending, (after n).events.frames)) = [(2, 0), (2, 1), (2, 1)] := by decide

/-- R122, R126: the last skipped record of a SWAP_LOOK and of the last LIGHT_FADE entry. -/
theorem test_skipped_record :
    (skippedBytes (258, .swapLook), skippedBytes (7, .lightFade 3)) = ([1, 2, 0, 0, 0], [0, 7, 2, 1, 3]) := by decide

/-- Table 12-2: R, G and B codes of 12 bits without gaps, the last byte padded with zero bits (log 36). -/
theorem test_packing :
    packBits (bitsOf 12 0x123 ++ bitsOf 12 0x456 ++ bitsOf 12 0x789) = [0x12, 0x34, 0x56, 0x78, 0x90]
      ∧ pixelsCarried [0x12, 0x34, 0x56, 0x78, 0x90] = [{ r := 0x123, g := 0x456, b := 0x789 }] := by decide

/-! ## Witnesses: the executor and the resets -/

/-- The command waiting in that state can be taken. -/
theorem takes (code : Byte) (payload : List Byte) : Takes (waiting code payload) (entry code payload) [] :=
  ⟨rfl, fun _ => Nat.succ_ne_zero 7⟩

/-- A state with every slot of the own queue filled and the lane busy. -/
def noSlot (s : State) : State :=
  { s with ret := { s.ret with own := List.replicate 8 (.notice 0x40 0 0), sending := some [0x82] } }

/-- A state in which the on-air guard refuses. -/
def onAir (s : State) : State := { s with cues := { s.cues with guard := true }, pins := { s.pins with tally := true } }

theorem witness_StepRunsFrontRow : State.reset.pending = [] := rfl

theorem witness_CommandRowsTakeTheirOwn :
    Instr.readStatus ∈ commandRows ∧ State.reset.intake.queue = []
      ∧ (noSlot (waiting 0x02 [])).intake.queue = [entry 0x02 []] ∧ rowTakes .setInput (entry 0x02 []) = false
      ∧ rowTakes .readStatus (entry 0x02 []) = true ∧ (entry 0x02 []).kind = .direct
      ∧ (noSlot (waiting 0x02 [])).ret.free = 0 := by decide

theorem witness_AnswerPlacesReply :
    ({ entry 0x02 [] with kind := .group } : Entry).kind ≠ .direct ∧ (entry 0x02 []).kind = .direct
      ∧ (noSlot State.reset).ret.sending.isSome = true ∧ State.reset.ret.sending = none ∧ State.reset.ret.own = []
      ∧ State.reset.ret.pass = [] ∧ (noSlot (waiting 0x02 [])).intake.headDirect = true
      ∧ (noSlot (waiting 0x02 [])).ret.free = 0 := by decide

/-- Table 12-5: STAGED_CHECKED after reset, and every other bit of the status byte at a state that sets it. -/
theorem test_status_byte :
    let withZone (st : ZoneState) : State := State.reset.modifyZone 15 fun z => { z with state := st }
    let raised (on : Bool) : State :=
      { State.reset with
        looks := { State.reset.looks with staged := .checking }
        events := { State.reset.events with flags := Source.mask .sceneReady, enables := if on then 0x40 else 0x3F } }
    ([State.reset, { State.reset with pins := { State.reset.pins with tally := true } }, raised true, raised false,
      withZone .shutdown, withZone .warm].map statusByte) = [0x10, 0x14, 0x88, 0x08, 0x50, 0x30] := by decide

theorem witness_CodesAndLengthsAreChecked :
    Takes (waiting 0x05 []) (entry 0x05 []) [] ∧ catalogue.contains (0x05 : Byte) = false
      ∧ (Instr.setGuard, 1) ∈ fixedLengths ∧ rowTakes .setGuard (entry 0x54 []) = true ∧ (entry 0x54 []).payload.length ≠ 1
      ∧ ({ row := .writeTiles, place := 1, head := 2, size := 16 } : CountedRow) ∈ countedLengths
      ∧ rowTakes .writeTiles (entry 0x20 [0]) = true ∧ (entry 0x20 [0]).payload.length ≤ 1
      ∧ (entry 0x20 [0, 1]).payload.length ≠ 2 + 16 * u8 (entry 0x20 [0, 1]).payload 1 :=
  ⟨takes _ _, by decide⟩

theorem witness_GuardedCommandsDenied :
    Takes (onAir (waiting 0x11 [7])) (entry 0x11 [7]) [] ∧ Instr.setOutput ∈ guardedRows
      ∧ rowTakes .setOutput (entry 0x11 [7]) = true ∧ rightLength .setOutput (entry 0x11 [7]).payload
      ∧ (onAir (waiting 0x11 [7])).cues.guard = true ∧ (onAir (waiting 0x11 [7])).pins.tally = true
      ∧ rightLength .writeFixtures (entry 0x60 [0]).payload :=
  ⟨takes 0x11 [7], by decide, by decide, by simp [rightLength, fixedLengths, countedLengths, entry], rfl, rfl,
    by simp [rightLength, fixedLengths, countedLengths, entry, u8]⟩

theorem witness_PlainReadsReport :
    Takes (waiting 0x01 []) (entry 0x01 []) [] ∧ Takes (waiting 0x02 []) (entry 0x02 []) []
      ∧ Takes (waiting 0x12 []) (entry 0x12 []) [] ∧ Takes (waiting 0x49 []) (entry 0x49 []) []
      ∧ (entry 0x49 []).payload = [] :=
  ⟨takes _ _, takes _ _, takes _ _, takes _ _, rfl⟩

/-- Each read at the end of its range and just past it; the entry takes any payload, so the lengths say the rest. -/
theorem witness_RangedReadsReport :
    Takes (waiting 0x28 [0, 5, 0, 8]) (entry 0x28 [0, 5, 0, 8]) [] ∧ (lookData [0, 4, 0, 0] State.reset.looks).isSome = true
      ∧ ((lookData [0, 0, 65, 63] State.reset.looks).isSome = true ∧ lookData [0, 0, 66, 63] State.reset.looks = none
          ∧ lookData [0, 0, 0, 64] State.reset.looks = none ∧ (lookData [1, 2, 7, 1] State.reset.looks).isSome = true
          ∧ lookData [1, 2, 0, 2] State.reset.looks = none ∧ (lookData [9, 5, 0, 8] State.reset.looks).isSome = true
          ∧ lookData [0, 6, 0, 1] State.reset.looks = none ∧ lookData [0, 1, 0, 0] State.reset.looks = none)
      ∧ lookData [2, 4, 0, 0] State.reset.looks = none ∧ u8 [7] 0 < 8 ∧ ¬ u8 [8] 0 < 8
      ∧ u8 [24, 8] 0 + u8 [24, 8] 1 ≤ 32 ∧ ¬ u8 [25, 8] 0 + u8 [25, 8] 1 ≤ 32 ∧ u8 [80, 16] 0 + u8 [80, 16] 1 ≤ 96
      ∧ ¬ u8 [95, 2] 0 + u8 [95, 2] 1 ≤ 96 ∧ u16 [63, 1, 255, 64] 1 ≤ 511 ∧ ¬ u16 [63, 2, 0, 64] 1 ≤ 511 :=
  ⟨takes _ _, by decide⟩

theorem witness_SetAddressesWritesSlots :
    Takes (waiting 0x03 [0x41, 0, 0xFF, 0]) (entry 0x03 [0x41, 0, 0xFF, 0]) []
      ∧ (entry 0x03 [0x41, 0, 0xFF, 0]).payload = [0x41, 0, 0xFF, 0]
      ∧ Takes (waiting 0x03 [0x41, 0, 0x80, 0]) (entry 0x03 [0x41, 0, 0x80, 0]) [] :=
  ⟨takes _ _, rfl, takes _ _⟩

/-- Kind 0, and the lowest kind that is neither SOFT nor TABLES. -/
theorem witness_SoftResetEffect :
    Takes (waiting 0x04 [0]) (entry 0x04 [0]) [] ∧ (entry 0x04 [0]).payload = [0]
      ∧ (waiting 0x04 [0]).onAirGuard = false ∧ Takes (waiting 0x04 [2]) (entry 0x04 [2]) []
      ∧ (entry 0x04 [2]).payload = [2] ∧ 2 ≤ (2 : Byte).toNat ∧ (waiting 0x04 [2]).onAirGuard = false :=
  ⟨takes _ _, rfl, rfl, takes _ _, rfl, by decide, rfl⟩

theorem witness_TablesResetEffect :
    Takes (waiting 0x04 [1]) (entry 0x04 [1]) [] ∧ (entry 0x04 [1]).payload = [1]
      ∧ (waiting 0x04 [1]).onAirGuard = false := ⟨takes _ _, rfl, rfl⟩

/-! ## Witnesses: the frame store, the timing generator and the look store -/

theorem witness_InputAndOutputSettings :
    Takes (waiting 0x10 [8, 1, 1, 15, 255, 0, 0, 0, 0]) (entry 0x10 [8, 1, 1, 15, 255, 0, 0, 0, 0]) []
      ∧ (entry 0x10 [8, 1, 1, 15, 255, 0, 0, 0, 0]).payload.length = 9
      ∧ u16 (entry 0x10 [8, 1, 1, 15, 255, 0, 0, 0, 0]).payload 3 = 4095
      ∧ Takes (waiting 0x11 [7]) (entry 0x11 [7]) [] ∧ (waiting 0x11 [7]).onAirGuard = false :=
  ⟨takes _ _, rfl, rfl, takes _ _, rfl⟩

/-- The last tile map entry, and the last region. -/
theorem witness_TileAndRegionRunsWritten :
    let p : List Byte := [127, 1, 1, 7, 0x1F, 0xFF, 0xF0, 0x00, 3, 63, 7, 15, 0, 0, 0, 0, 0, 0]
    let q : List Byte := [15, 1, 0x1F, 0xFF, 0xF0, 0x00, 0x10, 0x00, 0, 0]
    Takes (waiting 0x20 p) (entry 0x20 p) [] ∧ (waiting 0x20 p).looks.staged ≠ .checking
      ∧ p.length = 2 + 16 * u8 p 1 ∧ u8 p 0 + u8 p 1 = 128 ∧ (readTile (p.drop 2)).isSome = true
      ∧ Takes (waiting 0x23 q) (entry 0x23 q) [] ∧ q.length = 2 + 8 * u8 q 1 ∧ u8 q 0 + u8 q 1 = 16
      ∧ (readRegion (q.drop 2)).isSome = true :=
  ⟨takes _ _, by decide, by decide, by decide, by decide, takes _ _, by decide, by decide, by decide⟩

/-- A state in which a check runs. -/
def checking (s : State) : State := { s with looks := { s.looks with staged := .checking } }

/-- The refusals of the same two: a run one past the end, no entry, a tile type 8, and a write in CHECKING. -/
theorem witness_TileAndRegionRunsWritten_refused :
    let p (first : Byte) : List Byte := [first, 1, 1, 8, 0x1F, 0xFF, 0xF0, 0x00, 3, 63, 7, 15, 0, 0, 0, 0, 0, 0]
    let q (first : Byte) : List Byte := [first, 1, 0x1F, 0xFF, 0xF0, 0x00, 0x10, 0x00, 0, 0]
    Takes (waiting 0x20 (p 127)) (entry 0x20 (p 127)) [] ∧ (p 127).length = 2 + 16 * u8 (p 127) 1
      ∧ readTile ((p 127).drop 2) = none ∧ ¬ u8 (p 128) 0 + u8 (p 128) 1 ≤ 128 ∧ [0, 0].length = 2 + 16 * u8 [0, 0] 1
      ∧ Takes (waiting 0x23 (q 16)) (entry 0x23 (q 16)) [] ∧ (q 16).length = 2 + 8 * u8 (q 16) 1
      ∧ ¬ u8 (q 16) 0 + u8 (q 16) 1 ≤ 16 ∧ (checking (waiting 0x23 (q 15))).looks.staged = .checking
      ∧ Takes (checking (waiting 0x23 (q 15))) (entry 0x23 (q 15)) [] ∧ (readRegion ((q 15).drop 2)).isSome = true :=
  ⟨takes _ _, by decide, by decide, by decide, by decide, takes _ _, by decide, by decide, by decide, takes _ _, by decide⟩

/-- The last profile with the highest gain, a run past it, and no run at all. -/
theorem witness_ProfileRunWritten :
    let p : List Byte := [63, 1, 0xFF, 0xFF, 0, 0, 0, 0]
    Takes (waiting 0x21 p) (entry 0x21 p) [] ∧ p.length = 2 + 6 * u8 p 1 ∧ u8 p 0 + u8 p 1 = 64
      ∧ (waiting 0x21 p).looks.staged ≠ .checking ∧ Takes (checking (waiting 0x21 p)) (entry 0x21 p) []
      ∧ 64 < u8 [64, 1, 0, 0, 0, 0, 0, 0] 0 + u8 [64, 1, 0, 0, 0, 0, 0, 0] 1 ∧ u8 [0, 0] 1 = 0 :=
  ⟨takes _ _, by decide, by decide, by decide, takes _ _, by decide, by decide⟩

theorem witness_CurveWritten :
    let p (n : Byte) : List Byte := n :: List.replicate 66 0
    Takes (waiting 0x22 (p 7)) (entry 0x22 (p 7)) [] ∧ (p 7).length = 67 ∧ u8 (p 7) 0 = 7 ∧ 7 < u8 (p 8) 0
      ∧ (waiting 0x22 (p 7)).looks.staged ≠ .checking ∧ Takes (checking (waiting 0x22 (p 7))) (entry 0x22 (p 7)) [] :=
  ⟨takes _ _, by decide, by decide, by decide, by decide, takes _ _⟩

theorem witness_LookFieldsWritten :
    let p (n : Byte) : List Byte := [n, 255, 0, 0, 0, 0, 0, 0, 0, 1]
    Takes (waiting 0x24 (p 15)) (entry 0x24 (p 15)) [] ∧ (p 15).length = 10 ∧ u16 (p 15) 0 = 4095 ∧ 4095 < u16 (p 16) 0
      ∧ (waiting 0x24 (p 15)).looks.staged ≠ .checking ∧ Takes (checking (waiting 0x24 (p 15))) (entry 0x24 (p 15)) [] :=
  ⟨takes _ _, by decide, by decide, by decide, by decide, takes _ _⟩

theorem witness_ClearStagedWritesDefaultLook :
    Takes (waiting 0x25 []) (entry 0x25 []) [] ∧ (waiting 0x25 []).looks.staged ≠ .checking
      ∧ Takes (checking (waiting 0x25 [])) (entry 0x25 []) [] := ⟨takes _ _, by decide, takes _ _⟩

theorem witness_CopyActiveCopiesBank :
    Takes (waiting 0x26 []) (entry 0x26 []) [] ∧ (waiting 0x26 []).looks.staged ≠ .checking
      ∧ Takes (checking (waiting 0x26 [])) (entry 0x26 []) [] := ⟨takes _ _, by decide, takes _ _⟩

theorem witness_CheckLookStartsCheck :
    Takes (waiting 0x27 []) (entry 0x27 []) [] ∧ (waiting 0x27 []).looks.staged ≠ .checking
      ∧ Takes (checking (waiting 0x27 [])) (entry 0x27 []) [] := ⟨takes _ _, by decide, takes _ _⟩

/-- A look whose slot 127 is present, and whose curve 7 falls at its last point. -/
def poorLook : Look :=
  { Look.default with
    tiles := Look.default.tiles.set 127 { TileEntry.blank with present := true, typeId := 7 }
    curves := Look.default.curves.set 7 (Look.defaultCurve.set 32 0) }

/-- A state with that look in both banks. -/
def poor (s : State) : State := { s with looks := { s.looks with bank0 := poorLook, bank1 := poorLook, staged := .checking } }

/-- A state in a frame, with a check that has seen one output frame end. -/
def secondEnd (s : State) : State :=
  { s with timing := { s.timing with phase := .active }, looks := { s.looks with checkEnds := 1 } }

theorem witness_TileTypeWritten :
    let p (n width : Byte) : List Byte := [n, 1, 0, 9, 0, width, 1, 0, 16, 0, 0, 0, 0, 0, 0]
    Takes (waiting 0x29 (p 7 16)) (entry 0x29 (p 7 16)) [] ∧ (p 7 16).length = 15
      ∧ (waiting 0x29 (p 7 16)).onAirGuard = false ∧ u8 (p 7 16) 0 ≤ 7 ∧ (readTileType (p 7 16)).isSome = true
      ∧ 7 < u8 (p 8 16) 0 ∧ readTileType (p 7 15) = none
      ∧ ((poor (waiting 0x29 (p 7 16))).looks.bank0.tiles[(127 : Fin 128)].present = true
          ∧ (poor (waiting 0x29 (p 7 16))).looks.bank0.tiles[(127 : Fin 128)].typeId = u8 (p 7 16) 0)
      ∧ (∀ j : Fin 128, (waiting 0x29 (p 7 16)).looks.bank0.tiles[j].present = false)
      ∧ ∀ j : Fin 128, (waiting 0x29 (p 7 16)).looks.bank1.tiles[j].present = false :=
  ⟨takes _ _, by decide, by decide, by decide, by decide, by decide, by decide, by decide, by decide, by decide⟩

theorem witness_CheckCompletionRecords :
    State.reset.looks.staged ≠ .checking ∧ (checking State.reset).looks.staged = .checking
      ∧ ((poor State.reset).looks.stagedLook.tiles[(127 : Fin 128)].present = true
          ∧ (poor State.reset).looks.types[(7 : Fin 8)] = none)
      ∧ (poor State.reset).looks.stagedLook.curves[(7 : Fin 8)][31 + 1]
          < (poor State.reset).looks.stagedLook.curves[(7 : Fin 8)][31]
      ∧ (secondEnd (poor State.reset)).timing.phase = .active ∧ (secondEnd (poor State.reset)).looks.staged = .checking
      ∧ (secondEnd (poor State.reset)).looks.checkEnds ≠ 0 ∧ (poor State.reset).looks.checkEnds = 0 := by decide

/-- R40: a check goes on at the first output frame end after its CHECK_LOOK and is complete at the second. -/
theorem test_check_ends :
    let s := poor State.reset
    ((checkFrameEnd s).looks.staged, (checkFrameEnd s).looks.result) = (.checking, .none)
      ∧ ((checkFrameEnd (checkFrameEnd s)).looks.staged, (checkFrameEnd (checkFrameEnd s)).looks.result) =
        (.editing, .failed (.undefinedType 127)) := by decide

/-! ## Witnesses: chains, power, heat -/

/-- A state with a chain port changed. -/
def withPort (s : State) (c : Fin 8) (f : ChainPort → ChainPort) : State := s.modifyPort c f

/-- An identity record's content. -/
def someTile : Identity := { code := 9, serial := 1, width := 16, height := 16, depth := 8 }

/-- A port in RUN with one tile. -/
def running (p : ChainPort) : ChainPort := { p with state := .run, roster := [someTile] }

/-- Table 3-4, last row, and Table 3-8: an OFF port that is enabled sends no probe at a frame start that meets it, and one
at the next; with a frame end between them, one at the first. -/
theorem test_enable_meets_frame_start :
    let p := ChainPort.powerOn.configure { ChainPort.powerOn.config with enable := true }
    (p.state, p.frameStart.state) = (.probe, .probe)
      ∧ [p.probes, p.frameStart.probes, p.closeProbe.probes] = [false, true, true]
      ∧ [p.frameStart.windowOpen, p.frameStart.closeProbe.frameStart.windowOpen, p.closeProbe.frameStart.windowOpen]
        = [false, true, true] := by decide

theorem witness_ChainCommands :
    let p (enable step : Byte) : List Byte := [7, enable, 1, 1, 1, 0, 0, 0x10, step]
    Takes (waiting 0x30 (p 1 0)) (entry 0x30 (p 1 0)) [] ∧ (waiting 0x30 (p 1 0)).onAirGuard = false
      ∧ u8 (p 1 0) 0 = (7 : Fin 8).val ∧ (p 1 0).length = 9 ∧ u16 (p 1 0) 7 = 4096 ∧ 4096 < u16 (p 1 1) 7
      ∧ u8 (p 0 0) 1 = 0 ∧ (withPort (waiting 0x30 (p 0 0)) 7 running).ports[(7 : Fin 8)].state = .run
      ∧ (waiting 0x30 (p 0 0)).ports[(7 : Fin 8)].state = .off
      ∧ Takes (withPort (waiting 0x31 [7]) 7 running) (entry 0x31 [7]) []
      ∧ (waiting 0x31 [7]).ports[(7 : Fin 8)].state = .off
      ∧ (withPort (waiting 0x31 [7]) 7 fun q => { q with state := .failed }).ports[(7 : Fin 8)].state ≠ .run :=
  ⟨takes _ _, by decide, by decide, by decide, by decide, by decide, by decide, by decide, by decide, takes _ _, by decide,
    by decide⟩

/-- A chain number of 8, a chain in RUN within a frame and one outside a frame; two pixels of a frame whose first line
holds two and whose second line holds one more keep one line. -/
theorem witness_ChainCommands_cut :
    let s := withPort (waiting 0x31 [7]) 7 running
    7 < u8 (entry 0x31 [8]).payload 0 ∧ Takes (waiting 0x31 [8]) (entry 0x31 [8]) [] ∧ (waiting 0x31 [8]).onAirGuard = false
      ∧ s.timing.phase ≠ .active ∧ ({ s with timing := { s.timing with phase := .active } } : State).timing.phase = .active
      ∧ linesWithin 2 [[5, 6], [7]] = 1 ∧ demandWithin 2 [[5, 6], [7]] = 11 ∧ linesWithin 1 [[5, 6], [7]] = 0
      ∧ demandWithin 1 [[5, 6], [7]] = 5 :=
  ⟨by decide, takes _ _, rfl, by decide, by decide, by decide, by decide, by decide, by decide⟩

theorem witness_MasterGuardAndLineSettings :
    Takes (waiting 0x40 [0x10, 0, 0, 0]) (entry 0x40 [0x10, 0, 0, 0]) [] ∧ u16 [0x10, 0, 0, 0] 0 = 4096
      ∧ Takes (waiting 0x65 [0x10, 1, 0, 0]) (entry 0x65 [0x10, 1, 0, 0]) [] ∧ ¬ u16 [0x10, 1, 0, 0] 0 ≤ 4096
      ∧ (entry 0x65 [0x10, 1, 0, 0]).payload.length = 4
      ∧ Takes (waiting 0x54 [1]) (entry 0x54 [1]) [] ∧ ¬ u8 [2] 0 ≤ 1
      ∧ Takes (waiting 0x70 [3, 1, 1, 0x40]) (entry 0x70 [3, 1, 1, 0x40]) [] ∧ (waiting 0x70 [3, 1, 1, 0x40]).onAirGuard = false
      ∧ u8 [3, 1, 1, 0x40] 0 = 3 ∧ u16 [3, 1, 1, 0x40] 2 = 320 ∧ 320 < u16 [3, 1, 1, 0x41] 2 ∧ 3 < u8 [4, 1, 1, 0x40] 0 :=
  ⟨takes _ _, by decide, takes _ _, by decide, by decide, takes _ _, by decide, takes _ _, by decide, by decide, by decide,
    by decide, by decide⟩

/-- Thresholds −40, −39 and 150 in range; two equal thresholds are not. -/
theorem witness_SetThermalWritesConfiguration :
    let p (n : Byte) : List Byte := [0xFF, 0xD8, 0xFF, n, 0, 150, 63, 1, 0x10, 0, 0x10, 0, 1, 1]
    Takes (waiting 0x48 (p 0xD9)) (entry 0x48 (p 0xD9)) [] ∧ (p 0xD9).length = 14
      ∧ (-40 ≤ s16 (p 0xD9) 0 ∧ s16 (p 0xD9) 0 < s16 (p 0xD9) 2 ∧ s16 (p 0xD9) 2 < s16 (p 0xD9) 4 ∧ s16 (p 0xD9) 4 ≤ 150
          ∧ u8 (p 0xD9) 6 ≤ 63 ∧ 1 ≤ u8 (p 0xD9) 7 ∧ u16 (p 0xD9) 8 ≤ 4096 ∧ 1 ≤ u16 (p 0xD9) 10
          ∧ u16 (p 0xD9) 10 ≤ 4096 ∧ u8 (p 0xD9) 12 ≤ 1 ∧ u8 (p 0xD9) 13 ≤ 1)
      ∧ ¬ s16 (p 0xD8) 0 < s16 (p 0xD8) 2 :=
  ⟨takes _ _, by decide, by decide, by decide⟩

/-! ## Witnesses: cues, lights -/

/-- An ADD_CUE payload: id 7, a trigger code and frame, a LIGHT_MASTER action. -/
def cuePayload (id trigger f1 f0 : Byte) : List Byte :=
  [0, id, trigger, 0, 0, f1, 0, 0, f0, 16, 0, 0, 0, 0, 0, 0, 0, 0] ++ List.replicate 27 0

/-- A cue. -/
def someCue (id : Nat) (t : Trigger) : Cue :=
  { id := id, trigger := t, rep := none, swapLook := false, master := none, fades := [], follow := none
    lightMaster := some { target := 0, frames := 0 } }

/-- A state with a cue queue and an ended frame. -/
def withCues (s : State) (q : List Cue) (ended : Option (BitVec 32)) : State :=
  { s with cues := { s.cues with queue := q, ended := ended } }

theorem witness_AddCuePlacesCue :
    Takes (waiting 0x50 (cuePayload 7 0 0 5)) (entry 0x50 (cuePayload 7 0 0 5)) [] ∧ (cuePayload 7 0 0 5).length = 45
      ∧ readCue (cuePayload 0 0 0 5) = none ∧ readCue (cuePayload 7 0 0 5) = some (someCue 7 (.atFrame 5))
      ∧ readCue (cuePayload 7 0 1 1) = some (someCue 7 (.atFrame 16777217))
      ∧ ((0 : BitVec 32) - 16777217).toNat ≥ 2 ^ 31 ∧ ((16777217 : BitVec 32) - 0).toNat > 16777216
      ∧ ((16777216 : BitVec 32) - 0).toNat ≤ 16777216
      ∧ (List.replicate 32 (someCue 1 .next)).length = 32 ∧ (∃ d ∈ [someCue 7 .next], d.id = (someCue 7 .next).id)
      ∧ ((4 : BitVec 32) + 1 - 5).toNat < 2 ^ 31 ∧ ¬ ((3 : BitVec 32) + 1 - 5).toNat < 2 ^ 31 :=
  ⟨takes _ _, by decide, by decide, by decide, by decide, by decide, by decide, by decide, by decide, by decide, by decide,
    by decide⟩

theorem witness_CuesRemoved :
    Takes (withCues (waiting 0x51 [0, 7]) [someCue 7 .next] none) (entry 0x51 [0, 7]) [] ∧ u16 [0, 7] 0 ≠ 0
      ∧ u16 [0, 0] 0 = 0 ∧ u16 [0, 7] 0 ∈ [someCue 7 .next].map Cue.id ∧ u16 [0, 8] 0 ∉ [someCue 7 .next].map Cue.id
      ∧ Takes (waiting 0x52 []) (entry 0x52 []) [] ∧ (waiting 0x52 []).onAirGuard = false :=
  ⟨takes _ _, by decide, by decide, by decide, by decide, takes _ _, by decide⟩

/-- A WRITE_FIXTURES payload of one DIM8 record. -/
def fixturePayload (n : Byte) (base1 base0 : Byte) : List Byte := [1, n, 3, base1, base0, 0, 0, 1, 15, 0x20, 0, 1, 0]

/-- The record it carries. -/
def someFixture (base : Nat) : Fixture :=
  { Fixture.powerOn with present := true, line := 3, base := base, groups := 1, region := some 15, gain := 8192, rate := 256 }

/-- A state with one fixture written. -/
def withFixture (s : State) (x : Fin 96) (base : Nat) : State := s.modifyFixture x fun _ => someFixture base

set_option maxRecDepth 8000 in
theorem witness_FixturesWrittenAndDeleted :
    Takes (waiting 0x60 (fixturePayload 95 1 0x40)) (entry 0x60 (fixturePayload 95 1 0x40)) []
      ∧ (waiting 0x60 (fixturePayload 95 1 0x40)).onAirGuard = false
      ∧ (fixturePayload 95 1 0x40).length = 1 + 12 * u8 (fixturePayload 95 1 0x40) 0
      ∧ readRecords readFixture 12 1 ((fixturePayload 95 1 0x40).drop 1) = some [(95, someFixture 320)]
      ∧ ([(95, someFixture 320)].map Prod.fst : List (Fin 96)).Nodup
      ∧ ¬ ([(95, someFixture 320), (95, someFixture 320)].map Prod.fst : List (Fin 96)).Nodup
      ∧ footprintsMeet (writtenTable (withFixture State.reset 0 320).lights.fixtures [(95, someFixture 320)])[(0 : Fin 96)]
          (writtenTable (withFixture State.reset 0 320).lights.fixtures [(95, someFixture 320)])[(95 : Fin 96)] = true
      ∧ anyConflict (writtenTable State.reset.lights.fixtures [(95, someFixture 320)]) = false
      ∧ State.reset.lights.fixtures[(95 : Fin 96)].present = false
      ∧ (withFixture State.reset 95 1).lights.fixtures[(95 : Fin 96)].present = true
      ∧ Takes (waiting 0x61 [95]) (entry 0x61 [95]) [] ∧ u8 [95] 0 = (95 : Fin 96).val ∧ 95 < u8 [96] 0 :=
  ⟨takes _ _, by decide, by decide, by decide, by decide, by decide, by decide, by decide, by decide, by decide, takes _ _,
    by decide, by decide⟩

set_option maxRecDepth 8000 in
/-- The refusals: no record, 17 records, a record of fixture 96. -/
theorem witness_FixturesWrittenAndDeleted_refused :
    Takes (waiting 0x60 [0]) (entry 0x60 [0]) [] ∧ [(0 : Byte)].length = 1 + 12 * u8 [0] 0 ∧ u8 [0] 0 = 0
      ∧ (17 :: List.replicate 204 (0 : Byte)).length = 1 + 12 * u8 (17 :: List.replicate 204 0) 0
      ∧ 16 < u8 (17 :: List.replicate 204 0) 0 ∧ readFixture ((fixturePayload 96 1 0x40).drop (1 + 12 * 0)) = none
      ∧ 0 < u8 (fixturePayload 96 1 0x40) 0 :=
  ⟨takes _ _, by decide, by decide, by decide, by decide, by decide, by decide⟩

/-- A state with one scene set. -/
def withScene (s : State) (x : Fin 64) (sc : Scene) : State := s.setScene x sc

set_option maxRecDepth 8000 in
theorem witness_ScenesBegunAndDeleted :
    Takes (waiting 0x62 [63, 2, 0]) (entry 0x62 [63, 2, 0]) [] ∧ u8 [63, 2, 0] 0 = (63 : Fin 64).val
      ∧ poolUsed (waiting 0x62 [63, 2, 0]).lights.scenes ≤ 2048 ∧ u16 [63, 2, 0] 1 = 512 ∧ 512 < u16 [63, 2, 1] 1
      ∧ (withScene State.reset 63 (.building 1 [])).lights.scenes[(63 : Fin 64)] = .building 1 []
      ∧ State.reset.lights.scenes[(63 : Fin 64)] = .empty ∧ Takes (waiting 0x64 [63]) (entry 0x64 [63]) [] :=
  ⟨takes _ _, by decide, by decide, by decide, by decide, by decide, by decide, takes _ _⟩

theorem witness_ScenesBegunAndDeleted_refused :
    Takes (waiting 0x62 [64, 0, 1]) (entry 0x62 [64, 0, 1]) [] ∧ 63 < u8 (entry 0x62 [64, 0, 1]).payload 0
      ∧ (entry 0x62 [64, 0, 1]).payload.length = 3 ∧ Takes (waiting 0x64 [64]) (entry 0x64 [64]) []
      ∧ 63 < u8 (entry 0x64 [64]).payload 0 := ⟨takes _ _, by decide, by decide, takes _ _, by decide⟩

/-- The scene entry of fixture n with intensity 65535. -/
def someEntry (n : Nat) : SceneEntry := { fixture := n, i := some 65535, r := none, g := none, b := none }

/-- A SCENE_ENTRIES payload of one entry. -/
def entriesPayload : List Byte := [63, 1, 95, 1, 0xFF, 0xFF, 0, 0, 0, 0, 0, 0]

theorem emptyScene : (waiting 0x63 entriesPayload).lights.scenes[(63 : Fin 64)] = .empty := by decide

theorem witness_SceneEntriesAppended :
    Takes (waiting 0x63 entriesPayload) (entry 0x63 entriesPayload) [] ∧ entriesPayload.length = 2 + 10 * u8 entriesPayload 1
      ∧ u8 entriesPayload 0 = (63 : Fin 64).val
      ∧ readRecords readSceneEntry 10 1 (entriesPayload.drop 2) = some [someEntry 95]
      ∧ (∀ n held, (waiting 0x63 entriesPayload).lights.scenes[(63 : Fin 64)] ≠ .building n held)
      ∧ (withScene (waiting 0x63 entriesPayload) 63 (.building 2 [someEntry 95])).lights.scenes[(63 : Fin 64)]
          = .building 2 [someEntry 95]
      ∧ 2 - [someEntry 95, someEntry 94].length < [someEntry 95].length
      ∧ ¬ (([someEntry 95] ++ [someEntry 95]).map SceneEntry.fixture).Nodup
      ∧ (([someEntry 94] ++ [someEntry 95]).map SceneEntry.fixture).Nodup
      ∧ [someEntry 94].length + [someEntry 95].length = 2 :=
  ⟨takes _ _, by decide, by decide, by decide, fun _ _ => by rw [emptyScene]; exact Scene.noConfusion, by decide, by decide,
    by decide, by decide, by decide⟩

set_option maxRecDepth 8000 in
/-- The refusals: scene 64, no entry, 65 entries, a mask of 0. -/
theorem witness_SceneEntriesAppended_refused :
    Takes (waiting 0x63 [64, 0]) (entry 0x63 [64, 0]) [] ∧ 63 < u8 [64, 0] 0 ∧ [64, (0 : Byte)].length = 2 + 10 * u8 [64, 0] 1
      ∧ u8 [64, 0] 1 = 0 ∧ (63 :: 65 :: List.replicate 650 (0 : Byte)).length = 2 + 10 * u8 (63 :: 65 :: List.replicate 650 0) 1
      ∧ 64 < u8 (63 :: 65 :: List.replicate 650 0) 1
      ∧ readSceneEntry ([63, 1, 95, 0, 0xFF, 0xFF, 0, 0, 0, 0, 0, 0].drop (2 + 10 * 0)) = none :=
  ⟨takes _ _, by decide, by decide, by decide, by decide, by decide, by decide⟩

/-! ## Witnesses: the event unit -/

theorem witness_FlagsAndCountersRead :
    Takes (waiting 0x78 [0xFF, 0xFF, 0xFF]) (entry 0x78 [0xFF, 0xFF, 0xFF]) []
      ∧ (entry 0x78 [0xFF, 0xFF, 0xFF]).payload.length = 3
      ∧ Takes (waiting 0x7B [2, 7, 1]) (entry 0x7B [2, 7, 1]) [] ∧ u8 [2, 7, 1] 1 = (7 : Fin 8).val ∧ 2 < u8 [3, 0, 0] 0
      ∧ (u8 [2, 8, 0] 0 = 2 ∧ 7 < u8 [2, 8, 0] 1) ∧ 1 < u8 [0, 0, 2] 2 ∧ u8 [0, 8, 1] 0 = 0 ∧ u8 [1, 8, 1] 0 = 1 :=
  ⟨takes _ _, by decide, takes _ _, by decide, by decide, by decide, by decide, by decide, by decide⟩

/-- A state whose event unit has a pending count. -/
def withPendingCount (s : State) (n : Nat) : State := { s with events := { s.events with pending := n } }

theorem witness_NoticeSettings :
    let p (n : Byte) : List Byte := [1, 1, 1, 1, 1, 1, 1, n, 255]
    Takes (waiting 0x79 (p 16)) (entry 0x79 (p 16)) [] ∧ (p 16).length = 9
      ∧ (1 ≤ u8 (p 16) 7 ∧ u8 (p 16) 7 = 16 ∧ 1 ≤ u8 (p 16) 8 ∧ ∀ i < 7, u8 (p 16) i ≤ 1) ∧ ¬ u8 (p 17) 7 ≤ 16
      ∧ (withPendingCount (waiting 0x79 (p 16)) 15).events.pending < u8 (p 16) 7
      ∧ u8 (p 16) 7 ≤ (withPendingCount (waiting 0x79 (p 16)) 16).events.pending
      ∧ (beginCommand (entry 0x79 (p 16)) [] (withPendingCount (waiting 0x79 (p 16)) 16)).ret.free ≠ 0
      ∧ (beginCommand { entry 0x79 (p 16) with kind := .group } [] (noSlot (withPendingCount State.reset 16))).ret.free = 0 :=
  ⟨takes _ _, by decide, by decide, by decide, by decide, by decide, by decide, by decide⟩

theorem witness_FaultsCleared : Takes (waiting 0x7A []) (entry 0x7A []) [] ∧ (entry 0x7A []).payload = [] :=
  ⟨takes _ _, rfl⟩

/-! ## Witnesses: the lanes -/

/-- A page of 64 × 64 in role WRITE. -/
def openedPage : Page := { role := .write, size := some (64, 64), seq := some 11, base := Rgb.all 0, lines := [] }

/-- An input frame of 64 × 64 open on page 0. -/
def opened : State :=
  { State.reset with
    link := { State.reset.link with assembly := .open }
    store := { State.reset.store with pages := State.reset.store.pages.set 0 openedPage } }

theorem witness_MarkerOpensOrRejects :
    State.reset.link.assembly ≠ .open ∧ pageIn .free State.reset.store.pages = some 0 ∧ opened.link.assembly = .open
      ∧ pageIn .write opened.store.pages = some 0 ∧ (64 ≤ (64#16).toNat ∧ (4096#16).toNat ≤ 4096 ∧ (2160#16).toNat ≤ 2160)
      ∧ ¬ 64 ≤ (63#16).toNat ∧ ¬ (4097#16).toNat ≤ 4096 ∧ ¬ (2161#16).toNat ≤ 2160 := by decide

/-- A second input frame's marker while the first is open: with the limit of 8 the frame of 64 lines none of which has come
closes as bad, and page 0 is the lowest page FREE after that; with all but 8 lines received it becomes LATEST, and page 1
is the lowest FREE one. -/
theorem witness_MarkerOpensOrRejects_open :
    let missing (good : List Nat) : Nat := ((List.range 64).filter fun y => !good.contains y).length
    opened.store.missingLimit = 8 ∧ opened.store.pages[(0 : Fin 3)].height = 64 ∧ ¬ missing [] ≤ 8 ∧ missing (List.range 56) ≤ 8
      ∧ ¬ missing (List.range 55) ≤ 8 ∧ opened.store.pages[(1 : Fin 3)].role = .free
      ∧ ({ opened.store with pages := setRole .latest 1 opened.store.pages } : FrameStore).pages[(1 : Fin 3)].role = .latest := by
  decide

/-- A page one pixel wide and two lines high, and the check of a line packet for its line n. -/
def narrowPage : Page := { openedPage with size := some (1, 2) }

/-- The check of the line packet that carries one pixel for line n. -/
def narrowCheck (n : Byte) : BitVec 16 := crc16 [2, 0, n, 0, 1, 0x12, 0x34, 0x56, 0x78, 0x90]

set_option maxRecDepth 8000 in
theorem witness_LinesJudged_good :
    checkRight (lineBytes 0 1 [0x12, 0x34, 0x56, 0x78, 0x90] (narrowCheck 0)) = true
      ∧ checkRight (lineBytes 1 1 [0x12, 0x34, 0x56, 0x78, 0x90] (narrowCheck 1)) = true
      ∧ (pixelsCarried [0x12, 0x34, 0x56, 0x78, 0x90]).length = (1#16).toNat ∧ (1#16).toNat = narrowPage.width
      ∧ (0#16).toNat + 1 ≠ narrowPage.height ∧ (1#16).toNat + 1 = narrowPage.height := by decide

set_option maxRecDepth 8000 in
theorem witness_LinesJudged :
    State.reset.link.assembly ≠ .open ∧ opened.link.assembly = .open ∧ pageIn .write opened.store.pages = some 0
      ∧ opened.store.pages[(0 : Fin 3)].width = 64 ∧ opened.store.pages[(0 : Fin 3)].height = 64
      ∧ (62#16).toNat + 1 ≠ opened.store.pages[(0 : Fin 3)].height ∧ (63#16).toNat + 1 = opened.store.pages[(0 : Fin 3)].height
      ∧ checkRight (lineBytes 63 0 [] 0) = false := by decide

set_option maxRecDepth 8000 in
theorem witness_MarginPacketsJudged :
    (Instr.unknownForwardPacket [4, 0]).wellFormed = true
      ∧ checkRight (3 :: [0x40, 1, 9, 0, 0] ++ be2 (crc16 [3, 0x40, 1, 9, 0, 0]).toNat) = true
      ∧ checkRight (3 :: [0x40, 1, 9, 0, 0, 0, 0]) = false
      ∧ (7 ≤ [0x40, 1, 9, 0, 0, 0, 0].length ∧ u16 [0x40, 1, 9, 0, 0, 0, 0] 3 + 7 = [0x40, 1, 9, 0, 0, 0, 0].length)
      ∧ u16 [0x40, 1, 9, 0, 1, 0, 0] 3 + 7 ≠ [0x40, 1, 9, 0, 1, 0, 0].length
      ∧ matchAddress State.reset.intake 0x40 = some .direct ∧ matchAddress State.reset.intake 0xFF = some .broadcast
      ∧ matchAddress State.reset.intake 0x41 = none ∧ matchAddress State.reset.intake 0x00 = none
      ∧ matchAddress { State.reset.intake with slot3 := some 0x48, mask := 0xF0 } 0x4F = some .group
      ∧ matchAddress { State.reset.intake with slot3 := some 0x48, mask := 0xF0 } 0x40 = some .direct
      ∧ State.reset.intake.queue.length < 8
      ∧ State.reset.link.assembly ≠ .open ∧ opened.link.assembly = .open ∧ (noSlot State.reset).ret.free = 0
      ∧ State.reset.ret.free ≠ 0 ∧ (List.replicate 8 (entry 0x02 [])).length = 8 := by decide

/-! ## Witnesses: output frames -/

/-- A state with the reference and the frame phase set. -/
def timed (s : State) (r : RefState) (ph : FramePhase) (held : Bool) : State :=
  { s with timing := { s.timing with ref := r, phase := ph, held := held } }

theorem witness_ReferenceEvents :
    (timed State.reset .lost .active false).timing.phase = .active ∧ (timed State.reset .lost .active false).timing.ref = .lost
      ∧ State.reset.timing.phase ≠ .active ∧ State.reset.timing.ref ≠ .locked
      ∧ (timed State.reset .locked .ended false).timing.ref = .locked
      ∧ (timed State.reset .locked .ended false).timing.phase ≠ .active := by decide

/-- A state with the wall master ramp set. -/
def ramping (s : State) (taken : Nat) : State :=
  { s with power := { s.power with ramp := { active := true, start := 4096, target := 0, total := 4, taken := taken } } }

theorem witness_FrameStartWork :
    State.reset.timing.phase ≠ .active ∧ (timed State.reset .lost .active false).timing.phase = .active
      ∧ State.reset.timing.ref ≠ .locked ∧ (timed State.reset .locked .ended false).timing.ref = .locked
      ∧ (∀ p : Fin 3, State.reset.store.pages[p].role ≠ .latest)
      ∧ ({ State.reset with store := { State.reset.store with pages := setRole .latest 2 State.reset.store.pages } } : State).store.pages[(2 : Fin 3)].role = .latest
      ∧ State.reset.power.ramp.active = false ∧ (ramping State.reset 3).power.ramp.total ≤ (ramping State.reset 3).power.ramp.taken + 1
      ∧ (ramping State.reset 2).power.ramp.taken + 1 < (ramping State.reset 2).power.ramp.total
      ∧ (withPort State.reset 0 running).ports[(0 : Fin 8)].state = .run
      ∧ (withPort State.reset 0 fun q => { q with state := .probe }).ports[(0 : Fin 8)].state = .probe
      ∧ (withPort State.reset 0 fun q => { q with state := .probe }).ports[(0 : Fin 8)].newlyEnabled = false
      ∧ (withPort State.reset 0 fun q => { q with state := .probe, newlyEnabled := true }).ports[(0 : Fin 8)].newlyEnabled = true
      ∧ (withPort State.reset 0 fun q => { q with state := .enumerate }).ports[(0 : Fin 8)].state = .enumerate
      ∧ State.reset.ports[(0 : Fin 8)].state = .off
      ∧ (({ start := 0, target := 9, total := 5, elapsed := 4 } : Fade).total ≤ 4 + 1)
      ∧ State.reset.lights.fixtures[(0 : Fin 96)].i.fade = none := by decide

/-- The store's clauses: loss active or not with a page LATEST or with none, and a page READ before. -/
theorem witness_FrameStartWork_store :
    let s := State.reset
    let st := { s.store with everRead := true, pages := setRole .read 1 s.store.pages }
    pageIn .latest (setRole .latest 2 st.pages) = some 2
      ∧ (setRole .latest 2 st.pages).toList.map Page.role = [.free, .read, .latest]
      ∧ pageIn .read st.pages = some 1 ∧ st.everRead = true
      ∧ s.store.everRead = false ∧ (∀ p : Fin 3, st.pages[p].role ≠ .latest) ∧ st.lossActive = false
      ∧ ({ st with lossActive := true, lossAction := .fill } : FrameStore).lossAction = .fill
      ∧ st.holdLimit ≤ min 65535 (4 + 1) ∧ ¬ st.holdLimit ≤ min 65535 (3 + 1) := by decide

set_option maxRecDepth 8000 in
/-- The light clauses: a present fixture at the last slot of line 3, its last slot and the slot before its footprint, an
enabled line and its slot count at both ends; and a slot of each status's condition. -/
theorem witness_FrameStartWork_lights :
    let f := someFixture 320
    (withFixture State.reset 95 320).lights.fixtures[(95 : Fin 96)].present = true ∧ f.line = (3 : Fin 4).val
      ∧ f.base + f.kind.slots ≤ 321 ∧ anyConflict (withFixture State.reset 95 320).lights.fixtures = false
      ∧ (318 : Fin 320).val + 1 < f.base ∧ (319 : Fin 320).val + 1 = f.base
      ∧ ({ enable := true, slots := 320 } : LineConfig).slots ≤ 320 ∧ State.reset.follow.lines[(0 : Fin 4)].enable = false
      ∧ (running ChainPort.powerOn).roster[(0 : Fin 128).val % 16]? = some someTile
      ∧ (running ChainPort.powerOn).roster.length ≤ (1 : Fin 128).val % 16
      ∧ State.reset.comp.status[(0 : Fin 128)] ≠ .mismatch
      ∧ poorLook.tiles[(127 : Fin 128)].present = true ∧ Look.default.tiles[(127 : Fin 128)].present = false := by decide

set_option maxRecDepth 8000 in
/-- The law of the fixture table that the slot images rest on, at that state. -/
theorem witness_FrameStartWork_law : FixtureLaw (withFixture State.reset 95 320) := by
  refine ⟨by decide, fun x => ?_⟩
  by_cases h : x = 95
  · subst h
    exact ⟨fun _ => by unfold FixtureOk; decide, fun h => absurd h (by decide)⟩
  · have e : (withFixture State.reset 95 320).lights.fixtures[x] = Fixture.powerOn := by
      have hx : x.val ≠ 95 := fun e => h (Fin.ext e)
      simp [withFixture, State.modifyFixture, modifyAt, State.reset, State.powerOn, Lights.powerOn, hx.symm]
    have v : (withFixture State.reset 95 320).follow.values[x] = Rgb.all 0 := by
      simp [withFixture, State.modifyFixture, State.reset, State.powerOn, FollowBlock.powerOn]
    simp [e, v, Fixture.powerOn]

theorem witness_FrameEndWork :
    State.reset.timing.phase ≠ .active ∧ (timed State.reset .locked .active false).timing.phase = .active
      ∧ (timed State.reset .locked .active false).timing.held = false ∧ (timed State.reset .locked .active true).timing.held = true
      ∧ (someCue 7 .next).rep = none ∧ ([someCue 7 .next, someCue 8 (.onTally false)].map Cue.id).Nodup
      ∧ ((0 : BitVec 32) + 1 - 1).toNat < 2 ^ 31 ∧ ¬ ((0 : BitVec 32) + 1 - 2).toNat < 2 ^ 31
      ∧ ({ someCue 7 .next with rep := some { period := 5, count := 0, remaining := 0 } } : Cue).rep
          = some { period := 5, count := 0, remaining := 0 }
      ∧ ({ someCue 7 .next with rep := some { period := 5, count := 255, remaining := 255 } } : Cue).rep
          = some { period := 5, count := 255, remaining := 255 }
      ∧ ({ someCue 7 .next with rep := some { period := 5, count := 255, remaining := 1 } } : Cue).rep
          = some { period := 5, count := 255, remaining := 1 }
      ∧ ([someCue 7 .next, someCue 8 .next].filter fun c => c.trigger == .next).getLast? = some (someCue 8 .next) := by
  decide

/-- A state in a frame with every source flag set, one event pending and three frame ends counted. -/
def counting (threshold : Nat) : State :=
  { timed State.reset .locked .active false with
    events :=
      { State.reset.events with
        flags := BitVec.allOnes 24, countThreshold := 16, frameThreshold := threshold, pending := 1, frames := 3 } }

/-- The event unit's clauses: a frame end of that state raises nothing, and its own count is one below the threshold and at
it, with a slot free and with none. -/
theorem witness_FrameEndWork_count :
    (∀ order n, ∃ t, exec (.outputFrameEnd order) (counting n) = .next t ∧ t.events.flags = (counting n).events.flags)
      ∧ (countFrame (counting 5)).events = { (counting 5).events with frames := 4 }
      ∧ (countFrame (counting 4)).events = { (counting 4).events with pending := 0, frames := 0 }
      ∧ (counting 4).events.pending ≠ 0 ∧ (counting 4).ret.free ≠ 0 ∧ (noSlot (counting 4)).ret.free = 0 := by
  refine ⟨fun order n => ⟨frameEnd order (counting n), rfl, ?_⟩, by decide⟩
  have h : (frameEndWork order (counting n)).events.flags = BitVec.allOnes 24 :=
    frameEndWork_raisings (P := fun u _ => u.flags = BitVec.allOnes 24)
      (fun x s h => by rw [raise_flags, h, BitVec.allOnes_or]) (fun s h => by rw [countFrame_flags, h]) order _ rfl
  have ht : (frameEndWork order (counting n)).timing.held = false := by rw [frameEndWork_timing]; rfl
  have hf : (counting n).events.flags = BitVec.allOnes 24 := rfl
  unfold frameEnd endFrame
  simp only [ht, Bool.false_eq_true, if_false, h, hf]

/-- Where a frame end raises nothing: after reset nothing is due, checked, in RUN or in a zone. -/
theorem witness_FrameEndWork_still :
    State.reset.cues.queue = [] ∧ State.reset.looks.staged ≠ .checking
      ∧ (∀ c : Fin 8, State.reset.ports[c].state ≠ .run ∧ State.reset.ports[c].state ≠ .enumerate)
      ∧ (∀ x : Fin 128, State.reset.comp.status[x] ≠ .mapped ∧ State.reset.comp.status[x] ≠ .mismatch)
      ∧ 1 ≤ State.reset.thermal.config.deglitch := by decide

/-- Ports of chain 0 for each clause: an open enumeration with and without a record, a RUN port whose position 0 is one
frame end below the silent limit of 8 and at it, a FAILED port at its holdoff of 25, and a limiter at its two edges. -/
theorem witness_ChainAndPowerFrameEnd :
    let s := timed State.reset .locked .active false
    let run (since : Nat) (fresh : Bool) : ChainPort :=
      { ChainPort.powerOn with
        state := .run, roster := [someTile]
        reports := Vector.replicate 16 { last := none, since := since, silent := false, fresh := fresh } }
    s.timing.phase = .active ∧ s.timing.held = false ∧ s.ports[(0 : Fin 8)].state = .off
      ∧ (withPort s 0 fun q => { q with state := .enumerate, windowOpen := true, collection := [someTile] }).ports[(0 : Fin 8)].collection ≠ []
      ∧ (withPort s 0 fun q => { q with state := .enumerate, windowOpen := true }).ports[(0 : Fin 8)].collection = []
      ∧ min 255 ((run 6 false).reports[(0 : Fin 16)].since + 1) < (run 6 false).config.silentLimit
      ∧ ¬ min 255 ((run 7 false).reports[(0 : Fin 16)].since + 1) < (run 7 false).config.silentLimit
      ∧ (run 7 true).reports[(0 : Fin 16)].fresh = true
      ∧ ({ ChainPort.powerOn with state := .failed, holdoffCount := 24 } : ChainPort).config.holdoff ≤ min 255 (24 + 1)
      ∧ 655350000 * 65536 / 655350000 > (run 6 false).config.budget ∧ 65535 * 4096 / 65536 < 4096 := by decide

/-- A zone one frame end below the deglitch of 3 and at it, and a region of one pixel measured. -/
theorem witness_ThermalAndFollowFrameEnd :
    let s := timed State.reset .locked .active false
    s.timing.phase = .active ∧ s.timing.held = false ∧ s.thermal.zones[(15 : Fin 16)].state = .normal
      ∧ ¬ s.thermal.config.deglitch ≤ countRun (atOrAbove (some 90) s.thermal.config.shutdown) 1
      ∧ s.thermal.config.deglitch ≤ countRun (atOrAbove (some 90) s.thermal.config.shutdown) 2
      ∧ countRun (atOrAbove (some 89) s.thermal.config.shutdown) 2 = 0
      ∧ s.thermal.config.response = .zone
      ∧ ({ x := 0, y := 0, width := 1, height := 1 } : Region).width ≠ 0
      ∧ ({ State.reset with comp := { State.reset.comp with source := .fill } } : State).comp.source ≠ .none
      ∧ ({ sum := Rgb.all 4095, count := 1 } : RegionSum).count ≠ 0 := by decide

/-- A zone in a state with its counters. -/
def heated (s : State) (st : ZoneState) (warm hot shut down : Nat) : State :=
  s.modifyZone 3 fun z => { z with state := st, warm := warm, hot := hot, shut := shut, down := down }

/-- A zone in each state above NORMAL one frame end below the deglitch of 3 and at it, cooled to one degree below the
threshold of 65 less the hysteresis of 5, and at it; and, at a frame start, a region reaching out of a raster, the fill
colour as source, and a following fixture whose region is published. -/
theorem witness_ThermalAndFollowFrameEnd_down :
    let cfg := State.reset.thermal.config
    cfg.deglitch = 3 ∧ ¬ cfg.deglitch ≤ min 255 (1 + 1) ∧ cfg.deglitch ≤ min 255 (2 + 1)
      ∧ (some (cfg.warnLow - cfg.hysteresis - 1)).all (fun x => decide (x < cfg.warnLow - cfg.hysteresis)) = true
      ∧ (some (cfg.warnLow - cfg.hysteresis)).all (fun x => decide (x < cfg.warnLow - cfg.hysteresis)) = false
      ∧ (heated State.reset .hot 0 0 0 2).thermal.zones[(3 : Fin 16)].state = .hot
      ∧ (heated State.reset .warm 0 0 0 2).thermal.zones[(3 : Fin 16)].down = 2
      ∧ State.reset.timing.ref ≠ .locked ∧ State.reset.timing.phase ≠ .active
      ∧ ((List.range 64).filter fun n : Nat => decide ((-1 : Int) ≤ (n : Int) ∧ (n : Int) < (-1 : Int) + (3 : Nat))) = [0, 1]
      ∧ ({ someFixture 1 with followOn := true } : Fixture).region = some (15 : Fin 16).val := by decide

theorem witness_CueActionsIssued :
    let c : Cue := { someCue 7 .next with swapLook := true }
    let s := withCues (timed State.reset .locked .active false) [c] none
    s.timing.phase = .active ∧ s.timing.held = false ∧ s.cues.queue = [c] ∧ c.trigger = .next ∧ c.rep = none
      ∧ c.swapLook = true ∧ s.looks.staged = .checked ∧ c.fades = [] ∧ c.follow = none ∧ c.master = none
      ∧ c.lightMaster = some { target := 0, frames := 0 } ∧ (checking s).looks.staged ≠ .checked
      ∧ (withScene s 63 (.ready [someEntry 95])).lights.scenes[63]? = some (.ready [someEntry 95])
      ∧ s.lights.scenes[63]? = some .empty ∧ ([someEntry 95].map SceneEntry.fixture).Nodup
      ∧ (someEntry 95).fixture = (95 : Fin 96).val ∧ (someFixture 1).groups &&& 1 ≠ 0 ∧ (someFixture 1).present = true
      ∧ (someFixture 1).region.isSome = true ∧ (someFixture 1).followOn = false 
      ∧ (withScene s 63 (.building 1 [])).lights.scenes[63]? = some (.building 1 [])
      ∧ ({ c with fades := [{ scene := 63, mask := 1, frames := 0 }, { scene := 62, mask := 1, frames := 2 }] } : Cue).fades[1]?
          = some { scene := 62, mask := 1, frames := 2 }
      ∧ ({ someFixture 1 with followOn := true } : Fixture).followOn = true
      ∧ ({ mask := 1, on := false } : FollowAction).on = false := by decide

/-- Due cues of each trigger beside waiting ones: a lone one that repeats, and two in queue order. -/
theorem witness_CueActionsIssued_dues :
    let due (m : BitVec 32) (c : Cue) : Bool :=
      match c.trigger with
      | .atFrame n => decide ((m + 1 - n).toNat < 2 ^ 31)
      | .next => true
      | .onTally edge => edge
    let c : Cue := { someCue 7 (.atFrame 1) with rep := some { period := 5, count := 0, remaining := 0 } }
    [someCue 9 (.onTally false), c, someCue 8 (.atFrame 2)].filter (due 0) = [c]
      ∧ [someCue 7 (.onTally true), someCue 9 (.atFrame 2), someCue 8 .next].filter (due 0)
        = [someCue 7 (.onTally true), someCue 8 .next]
      ∧ (∀ d ∈ [c], d.fades = []) := by decide

/-- R153: a LIGHT_FADE of length 0 and then a FOLLOW on, in one cue: the follow value starts from the scene value. -/
theorem test_fade_then_follow :
    let c : Cue :=
      { someCue 7 .next with
        fades := [{ scene := 63, mask := 1, frames := 0 }], follow := some { mask := 1, on := true } }
    let e : SceneEntry := { fixture := 95, i := none, r := some 9, g := none, b := none }
    let s := (firingSteps c).foldl (fun s f => f s) (withScene (withFixture State.reset 95 320) 63 (.ready [e]))
    (s.lights.fixtures[(95 : Fin 96)].r.current, s.follow.values[(95 : Fin 96)]) = (9, { r := 9, g := 0, b := 0 }) := by
  decide +kernel

/-! ## Witnesses: thresholds, notices, arrivals, the return lane -/

/-- A state with a repeat count. -/
def repeating (s : State) (n : Nat) : State := { s with store := { s.store with repeats := n } }

/-- A running port with two tiles, all positions unreported for n frame ends. -/
def quiet (n : Nat) (p : ChainPort) : ChainPort :=
  { running p with
    roster := [someTile, someTile], reports := Vector.replicate 16 { last := none, since := n, silent := false, fresh := false } }

/-- A state with an output frame in progress. -/
def inFrame : State := timed State.reset .locked .active false

/-- A FAILED port with a holdoff count. -/
def failedPort (n : Nat) : ChainPort := { ChainPort.powerOn with state := .failed, holdoffCount := n }

theorem witness_ThresholdEvents :
    ((repeating State.reset 4).store.lossActive = false ∧ (∀ p : Fin 3, (repeating State.reset 4).store.pages[p].role ≠ .latest)
        ∧ (repeating State.reset 4).timing.ref ≠ .locked ∧ (repeating State.reset 4).timing.phase ≠ .active
        ∧ (repeating State.reset 4).store.holdLimit ≤ min 65535 ((repeating State.reset 4).store.repeats + 1))
      ∧ ¬ (repeating State.reset 3).store.holdLimit ≤ min 65535 ((repeating State.reset 3).store.repeats + 1)
      ∧ inFrame.timing.phase = .active ∧ (withPort inFrame 0 (quiet 7)).ports[(0 : Fin 8)].state = .run
      ∧ (1 : Fin 16).val < (withPort inFrame 0 (quiet 7)).ports[(0 : Fin 8)].roster.length
      ∧ (withPort inFrame 0 (quiet 7)).ports[(0 : Fin 8)].config.silentLimit = 8
      ∧ (8 ≤ min 255 ((quiet 7 ChainPort.powerOn).reports[(1 : Fin 16)].since + 1)
          ∧ ¬ 8 ≤ min 255 ((quiet 6 ChainPort.powerOn).reports[(1 : Fin 16)].since + 1))
      ∧ (quiet 7 ChainPort.powerOn).reports[(1 : Fin 16)].fresh = false
      ∧ (quiet 7 ChainPort.powerOn).reports[(1 : Fin 16)].silent = false ∧ (quiet 7 ChainPort.powerOn).roster ≠ []
      ∧ (failedPort 24).config.recovery = .auto ∧ (failedPort 24).config.holdoff ≤ min 255 ((failedPort 24).holdoffCount + 1)
      ∧ ¬ (failedPort 23).config.holdoff ≤ min 255 ((failedPort 23).holdoffCount + 1) := by decide

/-- A chain whose position 0 stands at the silent limit in mid-frame, as SET_CHAIN can leave it. -/
def atLimit (fresh : Bool) : State :=
  withPort inFrame 0 fun p =>
    { running p with reports := Vector.replicate 16 { last := none, since := 8, silent := false, fresh := fresh } }

/-- R56: a report that came in this frame keeps that chain in RUN; with none the frame end's count fails it. -/
theorem test_chain_failed_needs_the_count :
    exec (.chainFailed 0) (atLimit true) = .next (atLimit true)
      ∧ failureDue (atLimit true).ports[(0 : Fin 8)] = true
      ∧ failureDue (atLimit false).ports[(0 : Fin 8)].evaluate = true := ⟨rfl, by decide, by decide⟩

/-- One wall slot, MAPPED, of chain 0 names zone 3 and has reported a temperature; the zone is in a state with every
counter at n. -/
def heatedSlot (temp : Int) (st : ZoneState) (n : Nat) : State :=
  let s := heated inFrame st n n n n
  let look := { Look.default with tiles := Look.default.tiles.set 0 { TileEntry.blank with present := true, zone := 3 } }
  { withPort s 0 fun p =>
      { running p with
        reports := Vector.replicate 16 { last := some { reading := some temp, errors := 0 }, since := 0, silent := false, fresh := true } }
    with comp := { s.comp with look := look, status := s.comp.status.set 0 .mapped } }

set_option maxRecDepth 8000 in
/-- With each counter one below the deglitch of 3: a temperature at each threshold of 65, 75 and 90 reaches its counter and
misses the ones above, whether the ports' evaluation comes before or after, and one below every leave threshold has
cooled; so every move has a state that makes it. -/
theorem witness_ZoneMoves :
    let temps (e : Int) (st : ZoneState) : List (Option Int) :=
      let s := heatedSlot e st 2
      [effectiveTemp s 3, effectiveTemp { s with ports := (portsFrameEnd { state := s, left := none }).state.ports } 3]
    inFrame.timing.phase = .active ∧ inFrame.thermal.config.deglitch = 3
      ∧ (temps inFrame.thermal.config.shutdown .hot = [some 90, some 90]
          ∧ temps inFrame.thermal.config.warnHigh .warm = [some 75, some 75]
          ∧ temps inFrame.thermal.config.warnLow .normal = [some 65, some 65] ∧ temps 59 .warm = [some 59, some 59])
      ∧ (inFrame.thermal.config.hysteresis = 5 ∧ ([59].all fun x : Int => decide (x < 65 - 5)) = true)
      ∧ (List.map (fun limit : Int => if limit ≤ 75 then min 255 (2 + 1) else 0) [65, 75, 90]) = [3, 3, 0]
      ∧ (heatedSlot 59 .shutdown 2).thermal.zones[(3 : Fin 16)].state = .shutdown
      ∧ (heatedSlot 59 .hot 2).thermal.zones[(3 : Fin 16)].down = 2
      ∧ ({ inFrame.thermal.config with recovery := .auto } : ThermalConfig).recovery = .auto := by decide

/-- Table 6-3, at a member of zone 3: a SILENT mark over its reading of 59, a report with no reading, the reading itself,
and no report; and a zone with no member. -/
theorem witness_ThermalAndFollowFrameEnd_temperature :
    let placed (silent : Bool) (last : Option TileReport) : State :=
      withPort (heatedSlot 59 .normal 0) 0 fun p =>
        { p with reports := p.reports.set 0 { last := last, since := 0, silent := silent, fresh := false } }
    let told (r : Option Int) : Option TileReport := some { reading := r, errors := 0 }
    [placed true (told (some 59)), placed false (told none), placed false (told (some 59)), placed false none].map
        (effectiveTemp · 3) = [some 75, some 75, some 59, none]
      ∧ effectiveTemp (placed true none) 4 = none := by decide

theorem witness_NoticeEvents :
    State.reset.events.has .zoneHot = false ∧ State.reset.events.enabled .heat = false
      ∧ ({ State.reset.events with enables := 0x10 } : EventUnit).enabled .heat = true
      ∧ ({ State.reset.events with flags := Source.mask .zoneHot } : EventUnit).has .zoneHot = true
      ∧ ¬ State.reset.events.countThreshold ≤ State.reset.events.pending
      ∧ ¬ State.reset.events.frameThreshold ≤ State.reset.events.frames ∧ State.reset.events.due = false
      ∧ (withPendingCount State.reset 1).events.countThreshold ≤ (withPendingCount State.reset 1).events.pending
      ∧ (noSlot (withPendingCount State.reset 1)).ret.free = 0 ∧ (withPendingCount State.reset 1).ret.free ≠ 0
      ∧ ({ State.reset.events with due := true } : EventUnit).due = true
      ∧ ({ State.reset with ret := { State.reset.ret with sending := some [0x82] } } : State).ret.sending.isSome = true := by
  decide

theorem witness_TallyEdges :
    (withCues State.reset [someCue 7 .next, someCue 8 (.onTally false)] none).cues.queue[1]? = some (someCue 8 (.onTally false))
      ∧ (someCue 8 (.onTally false)).trigger = .onTally false ∧ ∀ edge, (someCue 7 .next).trigger ≠ .onTally edge := by
  decide

/-- An identity record and a tile report of position 1, 80 degrees, as they arrive. -/
def recordBytes : List Byte := withCheck [0xC8, 0, 9, 0, 0, 0, 1, 0, 16, 0, 16, 8]

/-- The report. -/
def reportBytes : List Byte := withCheck [0xC9, 1, 0, 80, 0]

set_option maxRecDepth 8000 in
theorem witness_ChainArrivals :
    (readIdentityRecord recordBytes = some someTile ∧ readTileReport reportBytes = some (1, { reading := some 80, errors := 0 }))
      ∧ recordBytes.drop 1 ≠ [] ∧ (recordBytes.drop 1).length ≠ 14 ∧ (reportBytes.drop 1).length ≠ 7
      ∧ (withPort State.reset 0 running).ports[(0 : Fin 8)].state = .run
      ∧ (withPort State.reset 0 running).ports[(0 : Fin 8)].roster.length ≤ 1
      ∧ 1 < (withPort State.reset 0 (quiet 0)).ports[(0 : Fin 8)].roster.length
      ∧ (withPort State.reset 0 fun q => { q with state := .enumerate, windowOpen := true, collection := List.replicate 16 someTile }).ports[(0 : Fin 8)].windowOpen = true
      ∧ (withPort State.reset 0 fun q => { q with overlong := true }).ports[(0 : Fin 8)].overlong = true
      ∧ State.reset.ports[(0 : Fin 8)].overlong = false
      ∧ (List.replicate 16 someTile).length = 16 ∧ State.reset.ports[(0 : Fin 8)].windowOpen = false
      ∧ (withPort State.reset 0 fun q => { q with state := .probe, windowOpen := true }).ports[(0 : Fin 8)].state = .probe := by
  decide

theorem witness_ReturnLaneAlternates :
    16 ≤ (List.replicate 16 ([] : List Byte)).length ∧ State.reset.ret.pass.length < 16
      ∧ (noSlot State.reset).ret.sending.isSome = true ∧ (noSlot State.reset).events.due = false
      ∧ (noSlot State.reset).ret.own ≠ [] ∧ (noSlot State.reset).ret.last = .pass ∧ (noSlot State.reset).ret.pass = []
      ∧ State.reset.ret.sending = none ∧ State.reset.ret.own = [] ∧ State.reset.ret.pass = [] := by decide

/-- A send that completes with a notice due and all slots taken: the slot freed goes to the notice; with the executor
WAITING it stays free (log 16). -/
theorem witness_ReturnLaneAlternates_due :
    let s : State := { noSlot State.reset with events := { State.reset.events with due := true } }
    let w : State := s.setExecutor .waiting
    s.ret.sending.isSome = true ∧ s.events.due = true ∧ s.ret.free = 0 ∧ s.intake.queue.length < 8
      ∧ s.intake.executor ≠ .waiting ∧ w.intake.executor = .waiting
      ∧ seen (fun t => (t.ret.free, t.events.due)) (exec .sendCompletion s) = some (0, false)
      ∧ seen (fun t => (t.ret.free, t.events.due)) (exec .sendCompletion w) = some (1, true) := by decide

/-- A chain in RUN whose slot 0 can be MAPPED: its record and its tile type agree. -/
theorem witness_DriveNeverExceedsDemand_lines :
    let s := withPort State.reset 0 running
    let t : TileType := { code := 9, width := 16, height := 16, depth := 8, k := Rgb.all 4095 }
    let e : TileEntry := { TileEntry.blank with present := true }
    s.timing.ref ≠ .locked ∧ s.timing.phase ≠ .active ∧ s.ports[(0 : Fin 8)].state = .run
      ∧ s.ports[(1 : Fin 8)].state ≠ .run ∧ s.ports[(0 : Fin 8)].roster[(0 : Fin 16).val]? = some someTile
      ∧ slotStatus e (some t) (running ChainPort.powerOn) 0 = .mapped ∧ slotStatus e none (running ChainPort.powerOn) 0 = .mismatch := by
  decide

theorem witness_DriveNeverExceedsDemand :
    FrameLatch.powerOn.limiter[(0 : Fin 8)] ≤ 4096 ∧ zoneComposite FrameLatch.powerOn TileEntry.blank ≤ 4096
      ∧ FrameLatch.powerOn.limiter[(0 : Fin 8)] = 0
      ∧ ({ FrameLatch.powerOn with limiter := Vector.replicate 8 4096 } : FrameLatch).limiter[(0 : Fin 8)] = 4096 := by decide

/-- 4.12: the latch of the worked example, its picture code taken as the fill colour; curve 3, profile 12 and zone 6. -/
def exampleLatch : FrameLatch :=
  let points (k : Nat) : Nat :=
    if k = 2 then 2500 else if k = 3 then 3900 else if k = 7 then 6100 else if k = 8 then 7000
    else if k = 15 then 9000 else if k = 16 then 10400 else 0
  { FrameLatch.powerOn with
    source := .fill, fill := { r := 2000, g := 1000, b := 300 }, limiter := Vector.replicate 8 4096
    composite := FrameLatch.powerOn.composite.set 6 (scaleBy 3072 2048)
    look :=
      { Look.default with
        border := Rgb.all 9
        curves := Look.default.curves.set 3 (Vector.ofFn fun k => points k.val)
        profiles := Look.default.profiles.set 12 { r := 30000, g := 33000, b := 29000 } } }

/-- Its tile map entry and its tile type. -/
def exampleEntry : TileEntry := { TileEntry.blank with present := true, typeId := 3, profile := 12, curve := 3, zone := 6 }

/-- Tile type 3 of the example. -/
def exampleType : TileType := { code := 1, width := 64, height := 64, depth := 10, k := { r := 300, g := 250, b := 200 } }

/-- Table 4-8: composite, demand, drive, and what the pixel adds to its chain's accumulator. -/
theorem test_one_pixel :
    exampleLatch.composite[(6 : Fin 16)] = 1536
      ∧ pixelDemand exampleLatch #v[openedPage, openedPage, openedPage] exampleEntry exampleType 5 7 =
        { r := 3390, g := 2580, b := 989 }
      ∧ pixelDrive exampleLatch #v[openedPage, openedPage, openedPage] 4 exampleEntry exampleType 5 7 =
        { r := 53, g := 40, b := 15 }
      ∧ pixelCurrent exampleType.k { r := 3390, g := 2580, b := 989 } = 1859800 := by decide

/-- The stages' premises: the example under FILL; and under PAGE on a raster of 64 × 64 the last column inside it, whose
pixel is 0, and the first outside it, which shows the border code of 9. -/
theorem witness_DriveNeverExceedsDemand_stages :
    let paged := { exampleLatch with source := .page 0, raster := some (64, 64) }
    let at' (u : Nat) : Int × Int := sourcePixel exampleEntry 64 64 u 63
    exampleEntry.curve = (3 : Fin 8).val ∧ exampleEntry.profile = (12 : Fin 64).val ∧ exampleEntry.zone = (6 : Fin 16).val
      ∧ exampleLatch.fill.r ≤ 4095 ∧ exampleLatch.source = .fill ∧ paged.source = .page 0 ∧ paged.raster = some (64, 64)
      ∧ (at' 63 = (63, 63) ∧ at' 64 = (64, 63)) ∧ openedPage.pixel 63 63 = Rgb.all 0
      ∧ pictureCode paged #v[openedPage, openedPage, openedPage] (at' 63) = Rgb.all 0
      ∧ pictureCode paged #v[openedPage, openedPage, openedPage] (at' 64) = Rgb.all 9 := by decide

/-! ## Witnesses: the laws, at a state with a row waiting -/

/-- The state after reset with a falling edge of TALLY waiting. -/
def oneRow : State := State.reset.setPending [.tallyFallingEdge]

theorem oneRow_steps : step oneRow = .next State.reset := rfl

theorem witness_PageLawKept : step oneRow = .next State.reset ∧ PageLaw oneRow :=
  ⟨rfl, by decide, by decide, by decide, by decide⟩

theorem witness_LookLawKept : step oneRow = .next State.reset ∧ LookLaw oneRow := by
  have h : firstFailure oneRow.looks.types oneRow.looks.active = none := by decide
  exact ⟨rfl, h, fun _ => h, by decide, fun _ => rfl⟩

theorem witness_ChainLawKept : step oneRow = .next State.reset ∧ ChainLaw oneRow :=
  ⟨rfl, by simp [ChainLaw, PortLaw, oneRow, State.setPending, State.reset, State.powerOn, ChainPort.powerOn]⟩

theorem witness_LimiterLawKept : step oneRow = .next State.reset ∧ LimiterLaw oneRow :=
  ⟨rfl, by simp [LimiterLaw, oneRow, State.setPending, State.reset, State.powerOn, Power.powerOn, Limiter.powerOn]⟩

theorem witness_ZoneLawKept : step oneRow = .next State.reset ∧ ZoneLaw oneRow :=
  ⟨rfl, by
    simp [ZoneLaw, oneRow, State.setPending, State.reset, State.powerOn, Thermal.powerOn, Zone.powerOn,
      ThermalConfig.powerOn]⟩

theorem witness_CueLawKept : step oneRow = .next State.reset ∧ CueLaw oneRow :=
  ⟨rfl, by
    simp [CueLaw, oneRow, State.setPending, State.reset, State.powerOn, CueEngine.powerOn, RampLaw, Power.powerOn,
      Lights.powerOn, Ramp.none]⟩

theorem witness_LightingLawsKept : step oneRow = .next State.reset ∧ FixtureLaw oneRow ∧ LightLaw oneRow :=
  ⟨rfl, by
    simp [FixtureLaw, oneRow, State.setPending, State.reset, State.powerOn, Lights.powerOn, FollowBlock.powerOn,
      anyConflict, footprintsMeet, Fixture.powerOn], by
    simp [LightLaw, oneRow, State.setPending, State.reset, State.powerOn, Lights.powerOn, FollowBlock.powerOn, SceneOk,
      AttrOk, RgbOk, Fixture.powerOn, Attr.zero, Rgb.all, poolUsed, Scene.counted]⟩

theorem witness_QueueLawKept : step oneRow = .next State.reset ∧ QueueLaw oneRow :=
  ⟨rfl, by
    simp [QueueLaw, oneRow, State.setPending, State.reset, State.powerOn, Intake.powerOn, Merger.powerOn,
      Intake.headDirect]⟩

/-- A counter at 65535 counts on the spot. -/
theorem test_counter_stays : (Counter.inc { value := 65535, overflow := true }, Counter.inc { value := 65534, overflow := false }) =
    ({ value := 65535, overflow := true }, { value := 65535, overflow := true }) := by decide

theorem witness_EventAndCounterLawsKept :
    (oneRow.pending.head? ≠ some .powerOnReset ∧ oneRow.pending.head? ≠ some .softReset
        ∧ oneRow.pending.head? ≠ some .tablesReset ∧ oneRow.pending.head? ≠ some .readCounters
        ∧ (countersOf oneRow .input)[0]? = some Counter.zero)
      ∧ step oneRow = .next State.reset ∧ EventLaw oneRow ∧ CounterLaw oneRow :=
  ⟨by decide, rfl, by simp [EventLaw, oneRow, State.setPending, State.reset, State.powerOn, EventUnit.powerOn, EventUnit.reached],
    by
      simp [CounterLaw, CounterOk, inputCounters, intakeCounters, chainCounters, oneRow, State.setPending, State.reset,
        State.powerOn, Intake.powerOn, Merger.powerOn, LinkReceiver.powerOn, FrameStore.powerOn, ChainPort.powerOn,
        Counter.zero]⟩

end Sys2Proof.Tests
end

section
/-! The commands of the look store that write the STAGED bank or begin its check (R28, R30, R31, R33-R35, R38). -/

namespace Sys2Proof.Machine

/-! ## Fields of a payload cut at its head, and runs of entries -/

@[simp] theorem u8_drop (p : List Byte) (n i : Nat) : u8 (p.drop n) i = u8 p (n + i) := by
  simp [u8, List.getD_eq_getElem?_getD]

@[simp] theorem u16_drop (p : List Byte) (n i : Nat) : u16 (p.drop n) i = u16 p (n + i) := by
  simp [u16, Nat.add_assoc]

/-- R30: a gain profile is read from any six bytes. -/
theorem readProfile_drop (p : List Byte) (n : Nat) :
    readProfile (p.drop n) = some { r := u16 p n, g := u16 p (n + 2), b := u16 p (n + 4) } := by
  simp [readProfile, rgbAt]

/-- A run written from place `first` on, each of its `n` entries known: the run's places hold the run's entries, every
other place keeps its own. -/
theorem writeRun_getElem_of_get {α : Type} {size n : Nat} {xs : List α} {entryAt : Nat → α} (v : Vector α size)
    (first j : Nat) (hj : j < size) (hlen : xs.length = n) (hget : ∀ k < n, xs[k]? = some (entryAt k)) :
    (writeRun v first xs)[j] = if first ≤ j ∧ j < first + n then entryAt (j - first) else v[j] := by
  rw [writeRun_getElem]
  by_cases hin : first ≤ j ∧ j < first + n
  · rw [if_pos hin, if_pos hin.1, hget _ (by omega), Option.getD_some]
  · rw [if_neg hin]
    split
    · next hfirst => rw [List.getElem?_eq_none (by omega), Option.getD_none]
    · rfl

/-- A run of one entry. -/
theorem writeRun_singleton_getElem {α : Type} {size : Nat} (v : Vector α size) (first : Nat) (x : α) (j : Nat)
    (hj : j < size) : (writeRun v first [x])[j] = if j = first then x else v[j] := by
  rw [writeRun_getElem_of_get (n := 1) (entryAt := fun _ => x) v first j hj rfl (by simp)]
  simp only [show (first ≤ j ∧ j < first + 1) ↔ j = first by omega]

/-! ## The tests before a write (R166, R183, 2.5) -/

theorem needCount_pos {i head size : Nat} {p : List Byte} {s : State} {k : Taken} (hi : i < head)
    (h : p.length = head + size * u8 p i) : needCount i head size p s k = k :=
  if_pos ⟨by omega, h⟩

/-- A test that fails refuses; a test that passes lets the command go on. -/
theorem need_eq_refuse {ok : Bool} {r : Result} {s : State} {k : Taken} (h : ok = false) :
    need ok r s k = refuse r s := by
  rw [h, need_false]

theorem need_eq_self {ok : Bool} {r : Result} {s : State} {k : Taken} (h : ok = true) : need ok r s k = k := by
  rw [h, need_true]

/-- 2.5: the first index and count of a run are in range. -/
theorem runOk_iff (p : List Byte) (maxCount size : Nat) :
    runOk p maxCount size = true ↔ 1 ≤ u8 p 1 ∧ u8 p 1 ≤ maxCount ∧ u8 p 0 + u8 p 1 ≤ size := by
  simp [runOk, Nat.one_le_iff_ne_zero, and_assoc]

theorem runOk_eq_false_iff (p : List Byte) (maxCount size : Nat) :
    runOk p maxCount size = false ↔ u8 p 1 = 0 ∨ maxCount < u8 p 1 ∨ size < u8 p 0 + u8 p 1 := by
  rw [← Bool.not_eq_true, runOk_iff]
  omega

/-! ## A write of the STAGED bank (R28) -/

/-- R28: `writeStaged_spec` with the count of the running check, which no write touches. -/
theorem writeStaged_spec_checkEnds (look : Look) (s : State) :
    ∃ u, writeStaged look s = done u ∧ u = { s with looks := u.looks } ∧ u.looks.active = s.looks.active
      ∧ u.looks.types = s.looks.types ∧ u.looks.result = s.looks.result ∧ u.looks.checkEnds = s.looks.checkEnds
      ∧ u.looks.staged = .editing ∧ u.looks.stagedLook = look := by
  obtain ⟨u, hu, hframe, hactive, htypes, hresult, hstaged, hlook⟩ := writeStaged_spec look s
  have hends : (writeStaged look s).state.looks.checkEnds = s.looks.checkEnds := LookStore.setStaged_checkEnds _ _
  rw [hu] at hends
  exact ⟨u, hu, hframe, hactive, htypes, hresult, hends, hstaged, hlook⟩

/-- R28: a command that has come to the test of the staged state is refused with BUSY in CHECKING and goes on
otherwise. -/
theorem needNotChecking_outcomes {o : Host.Outcome State Fault Refusal} {e : Entry} {k : Taken} {t : State}
    (ho : o = .next (answer e (needNotChecking t k))) :
    (t.looks.staged = .checking → o = .next (answer e (refuse .busy t)))
      ∧ (t.looks.staged ≠ .checking → o = .next (answer e k)) :=
  ⟨fun hbusy => by rw [ho, needNotChecking_neg hbusy], fun hfree => by rw [ho, needNotChecking_pos hfree]⟩

/-- R28: a command that has passed its tests and writes the STAGED bank is refused with BUSY in CHECKING; otherwise it
writes the bank, makes the staged state EDITING, and leaves everything else. -/
theorem stagedWrite_outcomes {o : Host.Outcome State Fault Refusal} {e : Entry} {look : Look} {t : State}
    (ho : o = .next (answer e (needNotChecking t (writeStaged look t)))) :
    (t.looks.staged = .checking → o = .next (answer e (refuse .busy t)))
      ∧ (t.looks.staged ≠ .checking →
          ∃ u, o = .next (answer e (done u)) ∧ u = { t with looks := u.looks } ∧ u.looks.active = t.looks.active
            ∧ u.looks.types = t.looks.types ∧ u.looks.result = t.looks.result
            ∧ u.looks.checkEnds = t.looks.checkEnds ∧ u.looks.staged = .editing ∧ u.looks.stagedLook = look) := by
  obtain ⟨hbusy, hgo⟩ := needNotChecking_outcomes ho
  obtain ⟨u, hu, heffect⟩ := writeStaged_spec_checkEnds look t
  rw [hu] at hgo
  exact ⟨hbusy, fun hfree => ⟨u, hgo hfree, heffect⟩⟩

/-! ## WRITE_PROFILES (R30) -/

theorem exec_writeProfiles_out_of_range {s : State} {e : Entry} {rest : List Entry} (h : Takes s e rest)
    (hc : e.code = 0x21) (hlen : e.payload.length = 2 + 6 * u8 e.payload 1) (hrun : runOk e.payload 64 64 = false) :
    exec .writeProfiles s = .next (answer e (refuse .badArgument (beginCommand e rest s))) := by
  simp only [exec_writeProfiles h hc, needCount_pos (by omega) hlen, need_eq_refuse hrun]

/-- R30: a run in range goes on to R28's test with its profiles, one for each place of the run. -/
theorem exec_writeProfiles_in_range {s : State} {e : Entry} {rest : List Entry} (h : Takes s e rest)
    (hc : e.code = 0x21) (hlen : e.payload.length = 2 + 6 * u8 e.payload 1) (hrun : runOk e.payload 64 64 = true) :
    ∃ profiles, profiles.length = u8 e.payload 1
      ∧ (∀ k < u8 e.payload 1, profiles[k]? =
          some { r := u16 e.payload (2 + 6 * k), g := u16 e.payload (4 + 6 * k), b := u16 e.payload (6 + 6 * k) })
      ∧ exec .writeProfiles s =
          .next (answer e (needNotChecking (beginCommand e rest s)
            (writeStaged
              { s.looks.stagedLook with
                profiles := writeRun s.looks.stagedLook.profiles (u8 e.payload 0) profiles }
              (beginCommand e rest s)))) := by
  obtain ⟨profiles, hread⟩ :=
    readRecords_isSome (f := readProfile) (size := 6) (n := u8 e.payload 1) (p := e.payload.drop 2) fun _ _ => rfl
  obtain ⟨hcount, hget⟩ := readRecords_get hread
  refine ⟨profiles, hcount, fun k hk => ?_, ?_⟩
  · rw [hget k hk, List.drop_drop, readProfile_drop, show 2 + 6 * k + 2 = 4 + 6 * k by omega,
      show 2 + 6 * k + 4 = 6 + 6 * k by omega]
  · simp only [exec_writeProfiles h hc, needCount_pos (by omega) hlen, need_eq_self hrun, hread, needFields_some,
      beginCommand_looks]

/-- Settles O17: R28's outcomes for a run in range, whose entries are the payload's records. -/
theorem profileRunWritten : Obligations.ProfileRunWritten := by
  unfold Obligations.ProfileRunWritten
  intro s e rest h hc hlen t p
  refine ⟨fun hout => exec_writeProfiles_out_of_range h hc hlen ((runOk_eq_false_iff _ _ _).mpr hout),
    fun hpos hmax hend => ?_⟩
  obtain ⟨profiles, hcount, hget, hexec⟩ :=
    exec_writeProfiles_in_range h hc hlen ((runOk_iff _ _ _).mpr ⟨hpos, hmax, hend⟩)
  obtain ⟨hbusy, hwritten⟩ := stagedWrite_outcomes hexec
  refine ⟨hbusy, fun hfree => ?_⟩
  obtain ⟨u, hu, hframe, hactive, htypes, hresult, hends, hstaged, hlook⟩ := hwritten hfree
  refine ⟨u, hu, hframe, hactive, htypes, hresult, hends, hstaged, by rw [hlook], fun j => ?_⟩
  rw [hlook]
  exact writeRun_getElem_of_get _ _ _ j.isLt hcount hget

/-! ## WRITE_CURVE (R31) -/

theorem exec_writeCurve_out_of_range {s : State} {e : Entry} {rest : List Entry} (h : Takes s e rest)
    (hc : e.code = 0x22) (hlen : e.payload.length = 67) (hcurve : 7 < u8 e.payload 0) :
    exec .writeCurve s = .next (answer e (refuse .badArgument (beginCommand e rest s))) := by
  simp only [exec_writeCurve h hc, needLength_pos hlen, need_eq_refuse (decide_eq_false (Nat.not_le.mpr hcurve))]

theorem exec_writeCurve_in_range {s : State} {e : Entry} {rest : List Entry} (h : Takes s e rest)
    (hc : e.code = 0x22) (hlen : e.payload.length = 67) (hcurve : u8 e.payload 0 ≤ 7) :
    exec .writeCurve s =
      .next (answer e (needNotChecking (beginCommand e rest s)
        (writeStaged
          { s.looks.stagedLook with
            curves := writeRun s.looks.stagedLook.curves (u8 e.payload 0) [curveOf e.payload] }
          (beginCommand e rest s)))) := by
  simp only [exec_writeCurve h hc, needLength_pos hlen, need_eq_self (decide_eq_true hcurve), beginCommand_looks]

@[simp] theorem curveOf_getElem (p : List Byte) (k : Nat) (hk : k < 33) : (curveOf p)[k] = u16 p (1 + 2 * k) := by
  simp [curveOf]

/-- Settles O18: R28's outcomes for a curve in range, which is a run of one entry. -/
theorem curveWritten : Obligations.CurveWritten := by
  unfold Obligations.CurveWritten
  intro s e rest h hc hlen t p
  refine ⟨exec_writeCurve_out_of_range h hc hlen,
    fun hcurve => (stagedWrite_outcomes (exec_writeCurve_in_range h hc hlen hcurve)).1, fun hcurve hfree => ?_⟩
  obtain ⟨u, hu, hframe, hactive, htypes, hresult, hends, hstaged, hlook⟩ :=
    (stagedWrite_outcomes (exec_writeCurve_in_range h hc hlen hcurve)).2 hfree
  refine ⟨u, hu, hframe, hactive, htypes, hresult, hends, hstaged, by rw [hlook], fun j k => ?_⟩
  simp only [hlook, Fin.getElem_fin, writeRun_singleton_getElem]
  split
  · exact curveOf_getElem _ _ k.isLt
  · rfl

/-! ## SET_LOOK_FIELDS (R33) -/

theorem exec_setLookFields_out_of_range {s : State} {e : Entry} {rest : List Entry} (h : Takes s e rest)
    (hc : e.code = 0x24) (hlen : e.payload.length = 10)
    (hout : 4095 < u16 e.payload 0 ∨ 4095 < u16 e.payload 2 ∨ 4095 < u16 e.payload 4) :
    exec .setLookFields s = .next (answer e (refuse .badArgument (beginCommand e rest s))) := by
  have hborder : ¬ (u16 e.payload 0 ≤ 4095 ∧ u16 e.payload 2 ≤ 4095 ∧ u16 e.payload 4 ≤ 4095) := by omega
  simp only [exec_setLookFields h hc, needLength_pos hlen, readCode_eq, Nat.zero_add, if_neg hborder, needFields_none]

theorem exec_setLookFields_in_range {s : State} {e : Entry} {rest : List Entry} (h : Takes s e rest)
    (hc : e.code = 0x24) (hlen : e.payload.length = 10)
    (hborder : u16 e.payload 0 ≤ 4095 ∧ u16 e.payload 2 ≤ 4095 ∧ u16 e.payload 4 ≤ 4095) :
    exec .setLookFields s =
      .next (answer e (needNotChecking (beginCommand e rest s)
        (writeStaged
          { s.looks.stagedLook with
            border := { r := u16 e.payload 0, g := u16 e.payload 2, b := u16 e.payload 4 }
            label := BitVec.ofNat 32 (u32 e.payload 6) }
          (beginCommand e rest s)))) := by
  simp only [exec_setLookFields h hc, needLength_pos hlen, readCode_eq, Nat.zero_add, if_pos hborder, needFields_some,
    beginCommand_looks]

/-- Settles O19: R28's outcomes for a border code in range. -/
theorem lookFieldsWritten : Obligations.LookFieldsWritten := by
  unfold Obligations.LookFieldsWritten
  intro s e rest h hc hlen t p
  exact ⟨exec_setLookFields_out_of_range h hc hlen,
    fun hr hg hb => stagedWrite_outcomes (exec_setLookFields_in_range h hc hlen ⟨hr, hg, hb⟩)⟩

/-! ## CLEAR_STAGED (R34) -/

theorem exec_clearStaged_of_empty {s : State} {e : Entry} {rest : List Entry} (h : Takes s e rest)
    (hc : e.code = 0x25) (hp : e.payload = []) :
    exec .clearStaged s =
      .next (answer e (needNotChecking (beginCommand e rest s)
        (writeStaged Look.default (beginCommand e rest s)))) := by
  simp only [exec_clearStaged h hc, needLength_pos (List.length_eq_zero_iff.mpr hp)]

/-- Settles O20: R28's outcomes for the default look. -/
theorem clearStagedWritesDefaultLook : Obligations.ClearStagedWritesDefaultLook := by
  unfold Obligations.ClearStagedWritesDefaultLook
  intro s e rest h hc hp t
  obtain ⟨hbusy, hwritten⟩ := stagedWrite_outcomes (exec_clearStaged_of_empty h hc hp)
  refine ⟨hbusy, fun hfree => ?_⟩
  obtain ⟨u, hu, hframe, hactive, htypes, hresult, hends, hstaged, hlook⟩ := hwritten hfree
  exact ⟨u, hu, hframe, hlook, hstaged, hactive, htypes, hresult, hends⟩

/-! ## COPY_ACTIVE (R35) -/

/-- R35: the state with the ACTIVE bank's content in the STAGED bank, CHECKED. -/
def copyActive (s : State) : State :=
  { s with looks := { s.looks.setStaged s.looks.active with staged := .checked } }

/-- R35: everything the copy does. -/
theorem copyActive_effect (s : State) :
    copyActive s = { s with looks := (copyActive s).looks } ∧ (copyActive s).looks.stagedLook = s.looks.active
      ∧ (copyActive s).looks.active = s.looks.active ∧ (copyActive s).looks.staged = .checked
      ∧ (copyActive s).looks.types = s.looks.types ∧ (copyActive s).looks.result = s.looks.result
      ∧ (copyActive s).looks.checkEnds = s.looks.checkEnds :=
  ⟨rfl, LookStore.setStaged_stagedLook _ _, LookStore.setStaged_active _ _, rfl, LookStore.setStaged_types _ _,
    LookStore.setStaged_result _ _, LookStore.setStaged_checkEnds _ _⟩

theorem exec_copyActive_of_empty {s : State} {e : Entry} {rest : List Entry} (h : Takes s e rest)
    (hc : e.code = 0x26) (hp : e.payload = []) :
    exec .copyActive s =
      .next (answer e (needNotChecking (beginCommand e rest s) (done (copyActive (beginCommand e rest s))))) := by
  simp only [exec_copyActive h hc, needLength_pos (List.length_eq_zero_iff.mpr hp), copyActive]

/-- Settles O21: R28's test, then the copy. -/
theorem copyActiveCopiesBank : Obligations.CopyActiveCopiesBank := by
  unfold Obligations.CopyActiveCopiesBank
  intro s e rest h hc hp t
  obtain ⟨hbusy, hcopied⟩ := needNotChecking_outcomes (exec_copyActive_of_empty h hc hp)
  exact ⟨hbusy, fun hfree => ⟨copyActive t, hcopied hfree, copyActive_effect t⟩⟩

/-! ## CHECK_LOOK (R38) -/

theorem exec_checkLook_of_empty {s : State} {e : Entry} {rest : List Entry} (h : Takes s e rest)
    (hc : e.code = 0x27) (hp : e.payload = []) :
    exec .checkLook s =
      .next (answer e (needNotChecking (beginCommand e rest s)
        { state := beginCheck (beginCommand e rest s), result := .accepted, data := [] })) := by
  simp only [exec_checkLook h hc, needLength_pos (List.length_eq_zero_iff.mpr hp)]

/-- Settles O22: R28's test, then the checker begins. -/
theorem checkLookStartsCheck : Obligations.CheckLookStartsCheck := by
  unfold Obligations.CheckLookStartsCheck
  intro s e rest h hc hp t
  exact needNotChecking_outcomes (exec_checkLook_of_empty h hc hp)

end Sys2Proof.Machine
end

section
/-! Every row as a chain of block changes, said once, and what follows for a law of the whole part: a law that every
block change keeps, every step keeps. -/

namespace Sys2Proof.Machine

/-! ## The changes of each block

Each relation says what one operation can make of the blocks it names, for the state it is taken in. `Change` puts the
new blocks into the state, so that what a change leaves alone is seen from its form. -/

/-- R2–R7, R11, R18: the link receiver and the frame store. -/
inductive InputChange (s : State) : LinkReceiver → FrameStore → Prop
  | close (h : s.link.assembly = .open) : InputChange s (closeInput s).link (closeInput s).store
  | take (seq : BitVec 16) (width height : Nat) (h : s.link.assembly ≠ .open) :
      InputChange s (openInput seq width height s).link (openInput seq width height s).store
  | reject (h : s.link.assembly ≠ .open) : InputChange s { s.link with assembly := .rejected, good := [] } s.store
  | line (line count : Nat) (px : List Rgb) (ok : Bool) (h : s.link.assembly = .open) :
      InputChange s (judgeLine line count px ok s).link (judgeLine line count px ok s).store
  | settings (st : FrameStore) (hp : st.pages = s.store.pages) (hr : st.everRead = s.store.everRead)
      (hc : (st.dropped, st.repeated, st.bad) = (s.store.dropped, s.store.repeated, s.store.bad)) :
      InputChange s s.link st

/-- R28–R46: the look store. -/
inductive LookChange (l : LookStore) : LookStore → Prop
  | write (look : Look) (h : l.staged ≠ .checking) : LookChange l { l.setStaged look with staged := .editing }
  | copy (h : l.staged ≠ .checking) : LookChange l { l.setStaged l.active with staged := .checked }
  | beginCheck (h : l.staged ≠ .checking) : LookChange l { l with staged := .checking, checkEnds := 0 }
  | complete (h : l.staged = .checking) : LookChange l l.completeCheck
  | countEnd (h : l.staged = .checking) : LookChange l { l with checkEnds := 1 }
  | tileType (id : Nat) (entry : Option TileType) (h : typeInUse l id = false) :
      LookChange l { l with types := writeRun l.types id [entry] }
  | swap (h : l.staged = .checked) : LookChange l (swapRoles l)
  | softReset : LookChange l l.softReset
  | tablesReset : LookChange l l.tablesReset

/-- R48–R59: one port, by operations that neither enter nor leave RUN. -/
inductive PortChange (p : ChainPort) : ChainPort → Prop
  | keep : PortChange p p
  | configure (cfg : ChainConfig) (h : cfg.enable = true ∨ p.state ≠ .run) : PortChange p (p.configure cfg)
  | restart (h : p.state ≠ .run) : PortChange p p.restart
  | answered (h : p.state = .probe) : PortChange p { p with answered := true }
  | collect (i : Identity) (h : p.collection.length < 16) : PortChange p { p with collection := p.collection ++ [i] }
  | overlong : PortChange p { p with overlong := true }
  | report (i : Fin 16) (r : TileReport) :
      PortChange p { p with reports := modifyAt p.reports i (Position.report r), linkErrors := p.linkErrors.add r.errors }
  | evaluate : PortChange p p.evaluate
  | markSilent (i : Fin 16) :
      PortChange p
        { p with reports := modifyAt p.reports i fun q => { q with silent := true }, silentEvents := p.silentEvents.inc }
  | countHoldoff : PortChange p p.countHoldoff
  | recover (h : p.state = .failed) : PortChange p { p with state := .probe, newlyEnabled := false, windowOpen := false }
  | frameStart : PortChange p p.frameStart
  | closeProbe (h : p.state = .probe) : PortChange p p.closeProbe
  | enumFail (h : p.state = .enumerate) : PortChange p p.enumFail
  | clearFault : PortChange p p.clearFault

/-- R49, R56, R58: one port that leaves RUN. -/
inductive PortLeaves (p : ChainPort) : ChainPort → Prop
  | disable (cfg : ChainConfig) (h : cfg.enable = false) (hr : p.state = .run) : PortLeaves p (p.configure cfg)
  | restart : PortLeaves p p.restart
  | fail (h : p.state = .run) : PortLeaves p p.fail

/-- R48–R59, R90–R93: the ports and the limiters. The accumulator of a chain that leaves RUN within a frame is put to
what it has sent (R82). -/
inductive ChainChange (s : State) : Vector ChainPort 8 → Vector Limiter 8 → Prop
  | ports (ps : Vector ChainPort 8) (h : ∀ c : Fin 8, PortChange s.ports[c] ps[c]) : ChainChange s ps s.power.limiters
  | leave (c : Fin 8) (p : ChainPort) (acc : Nat) (h : PortLeaves s.ports[c] p)
      (ha : s.timing.phase ≠ .active → acc = s.power.limiters[c].acc) :
      ChainChange s (modifyAt s.ports c fun _ => p)
        (modifyAt s.power.limiters c fun _ => { scale := 0, acc := acc, measured := false })
  | install (c : Fin 8) (h : s.ports[c].state = .enumerate) (hc : s.ports[c].collection ≠ []) :
      ChainChange s (modifyAt s.ports c ChainPort.install)
        (modifyAt s.power.limiters c fun l => { l with scale := 0, measured := false })
  | measure : ChainChange s s.ports (markMeasured s).power.limiters
  | demand (h : s.timing.phase = .active) : ChainChange s s.ports (addDemand s).power.limiters
  | scale (c : Fin 8) (h : evaluated s c = true) :
      ChainChange s s.ports (modifyAt s.power.limiters c fun l => { l with scale := newScale s c, acc := 0 })
  | clearAcc (c : Fin 8) : ChainChange s s.ports (modifyAt s.power.limiters c fun l => { l with acc := 0 })

/-- R84–R88, R142, R143: a master and its ramp; a ramp is begun by a command in range or by a cue of the queue. -/
inductive MasterChange (queue : List Cue) (value : Nat) (r : Ramp) : Nat → Ramp → Prop
  | begin (target frames : Nat)
      (h : target ≤ 4096
        ∨ ∃ c ∈ queue, ∃ m, (c.master = some m ∨ c.lightMaster = some m) ∧ m.target = target) :
      MasterChange queue value r value (Ramp.begin value target frames)
  | step : MasterChange queue value r (r.value value) r.step
  | freeze : MasterChange queue value r value r.freeze

/-- R98–R109: the zones. -/
inductive ThermalChange (s : State) : Thermal → Prop
  | count (z : Fin 16) (members : Nat) (e : Option Int) :
      ThermalChange s (s.modifyZone z fun r => r.count s.thermal.config members e).thermal
  | move (z : Fin 16) (st : ZoneState) (h : st ≠ .shutdown) : ThermalChange s (moveZone z st s).thermal
  | shut (z : Fin 16) : ThermalChange s (blackOut z (moveZone z .shutdown s)).thermal
  | scales : ThermalChange s (setScales s.thermal)
  | config (cfg : ThermalConfig) (h : cfg.derate ≤ 4096) : ThermalChange s (setThermal cfg s.thermal)
  | clearFaults : ThermalChange s { s.thermal with zones := mapAll (Zone.clearFault s.thermal.config) s.thermal.zones }

/-- R113–R127: the cue queue. -/
inductive QueueChange (queue : List Cue) : List Cue → Prop
  | append (c : Cue) (h : queue.length < 32) (hid : ∀ d ∈ queue, d.id ≠ c.id) (hc : CueOk c) :
      QueueChange queue (queue ++ [c])
  | sublist (q : List Cue) (h : q.Sublist queue) : QueueChange queue q
  | markEdges : QueueChange queue (queue.map Cue.markEdge)
  | settle (m : BitVec 32) : QueueChange queue (queue.flatMap (Cue.afterWalk m))

/-- R136–R139: one scene; `room` is what BEGIN_SCENE may reserve for it. -/
inductive SceneChange (room : Nat) (sc : Scene) : Scene → Prop
  | begin (n : Nat) (h0 : n ≠ 0) (h : n ≤ 512) (hr : n ≤ room) : SceneChange room sc (.building n [])
  | append (entries : List SceneEntry) (hb : sc.isBuilding = true) (h0 : entries ≠ [])
      (hl : entries.length ≤ sc.expected - sc.entries.length) (hr : entriesRepeat sc.entries entries = false)
      (he : ∀ e ∈ entries, EntryOk e) : SceneChange room sc (sc.append entries)
  | delete : SceneChange room sc .empty

/-- R131–R157: the fixtures, the scenes and the follow block; the light master stands apart. -/
inductive LightChange (s : State) : Vector Fixture 96 → Vector Scene 64 → FollowBlock → Prop
  | write (records : List (Fin 96 × Fixture)) (hp : ∀ x ∈ records, FixtureOk x.2 ∧ x.2.present = true
        ∧ x.2.i = Attr.zero ∧ x.2.r = Attr.zero ∧ x.2.g = Attr.zero ∧ x.2.b = Attr.zero)
      (hn : (records.map Prod.fst).Nodup) (hc : anyConflict (writtenTable s.lights.fixtures records) = false) :
      LightChange s (writtenTable s.lights.fixtures records) s.lights.scenes
        { s.follow with values := writtenValues s.lights.fixtures s.follow.values records }
  | delete (x : Fin 96) :
      LightChange s (modifyAt s.lights.fixtures x fun _ => Fixture.powerOn) s.lights.scenes
        { s.follow with values := s.follow.values.set x (Rgb.all 0) }
  | fade (a : FadeAction) (entries : List SceneEntry) (h : s.lights.scenes[a.scene]? = some (.ready entries)) :
      LightChange s (entries.foldl (applyEntry a) s.lights.fixtures) s.lights.scenes s.follow
  | stepFades : LightChange s (mapAll (Fixture.mapAttrs Attr.step) s.lights.fixtures) s.lights.scenes s.follow
  | freezeFades : LightChange s (mapAll (Fixture.mapAttrs Attr.freeze) s.lights.fixtures) s.lights.scenes s.follow
  | stepFollow : LightChange s s.lights.fixtures s.lights.scenes (stepFollow s).follow
  | followOn (a : FollowAction) :
      LightChange s (followOnAction a s).lights.fixtures s.lights.scenes (followOnAction a s).follow
  | followOff (a : FollowAction) : LightChange s (followOffAction a s).lights.fixtures s.lights.scenes s.follow
  | scene (x : Fin 64) (sc : Scene)
      (h : SceneChange (poolFree s.lights.scenes + s.lights.scenes[x].counted) s.lights.scenes[x] sc) :
      LightChange s s.lights.fixtures (s.lights.scenes.set x sc) s.follow
  | output (f : FollowBlock) (h : f.values = s.follow.values) : LightChange s s.lights.fixtures s.lights.scenes f
  | clear : LightChange s (Vector.replicate 96 Fixture.powerOn) (Vector.replicate 64 .empty)
      { s.follow with values := Vector.replicate 96 (Rgb.all 0) }

/-- R163, R171–R180: the event unit with the notices it queues, and the intake between commands. -/
inductive NoticeChange (s : State) : State → Prop
  | raise (e : Source) : NoticeChange s (raise e s)
  | dueTest : NoticeChange s (dueTest s)
  | countFrame : NoticeChange s (countFrame s)
  | tryNotice : NoticeChange s (tryNotice s)
  | thresholds (enables : BitVec 7) (count frames : Nat) (hc : 1 ≤ count ∧ count ≤ 16)
      (hf : 1 ≤ frames ∧ frames ≤ 255) :
      NoticeChange s
        (dueTest
          { s with
            events := { s.events with enables := enables, countThreshold := count, frameThreshold := frames } })
  | clearFlags (flags : BitVec 24) : NoticeChange s { s with events := { s.events with flags := flags } }
  | reset : NoticeChange s { s with events := s.events.reset }
  | addresses (a b c : Option Byte) (mask : Byte) :
      NoticeChange s { s with intake := { s.intake with slot1 := a, slot2 := b, slot3 := c, mask := mask } }
  | emptyIntake : NoticeChange s { s with intake := { s.intake with queue := [], executor := .idle } }

/-- R21: the state that POWER_ON_RESET leaves. -/
def powerOnReset (s : State) : State :=
  { State.powerOn s.pins with
    out := { Output.blank with through := s.out.through, upstream := s.out.upstream }
    freeIndex := s.freeIndex
    pending := s.pending }

/-- What operations are admitted beside the others: the counter sets that may be cleared (R179), and whether a frame
start may be taken (R8). -/
structure May where
  clears : CounterSet → Prop
  starts : Prop

/-- One operation on the part between commands. -/
inductive Change (may : May) (s : State) : State → Prop
  | model (out : Output) (freeIndex : Nat) : Change may s { s with out := out, freeIndex := freeIndex }
  | latch (comp : FrameLatch) : Change may s { s with comp := comp }
  | tally (b : Bool) : Change may s { s with pins := { s.pins with tally := b } }
  | timing (g : Timing)
      (h : g.phase = s.timing.phase ∨ g.phase = .active ∨ ∀ c : Fin 8, s.power.limiters[c].acc = 0) :
      Change may s { s with timing := g }
  | input {l : LinkReceiver} {st : FrameStore} (h : InputChange s l st) : Change may s { s with link := l, store := st }
  | settle (h : may.starts) : Change may s { s with store := settlePages s.store }
  | looks {l : LookStore} (h : LookChange s.looks l) : Change may s { s with looks := l }
  | chains {ps : Vector ChainPort 8} {ls : Vector Limiter 8} (h : ChainChange s ps ls) :
      Change may s { s with ports := ps, power := { s.power with limiters := ls } }
  | master {v : Nat} {r : Ramp} (h : MasterChange s.cues.queue s.power.master s.power.ramp v r) :
      Change may s { s with power := { s.power with master := v, ramp := r } }
  | lightMaster {v : Nat} {r : Ramp} (h : MasterChange s.cues.queue s.lights.master s.lights.ramp v r) :
      Change may s { s with lights := { s.lights with master := v, ramp := r } }
  | thermal {t : Thermal} (h : ThermalChange s t) : Change may s { s with thermal := t }
  | cues (c : CueEngine) (h : QueueChange s.cues.queue c.queue) : Change may s { s with cues := c }
  | lights {fs : Vector Fixture 96} {scs : Vector Scene 64} {f : FollowBlock} (h : LightChange s fs scs f) :
      Change may s { s with lights := { s.lights with fixtures := fs, scenes := scs }, follow := f }
  | notice {u : State} (h : NoticeChange s u) :
      Change may s { s with events := u.events, intake := u.intake, ret := u.ret, out := u.out }
  | clear (set : CounterSet) (h : may.clears set) : Change may s (clearSet s set)
  | clearAll (h : ∀ set, may.clears set) : Change may s (clearCounters s)

/-- Operations one after another. -/
abbrev Changes (may : May) : State → State → Prop := Relation.ReflTransGen (Change may)

end Sys2Proof.Machine
end

section
/-! The laws of the look store and of the frame pages, kept by every change of their blocks (R7, R27, R40). -/

namespace Sys2Proof.Machine

/-! ## The look store (R27, R40) -/

/-- R39: a look passes the check when every present entry names a defined type and every curve rises. -/
theorem firstFailure_eq_none_iff (types : Vector (Option TileType) 8) (look : Look) :
    firstFailure types look = none
      ↔ (∀ i : Fin 128, tileFails types look.tiles[i] = false) ∧ ∀ c : Fin 8, curveRising look.curves[c] = true := by
  rw [← placesWhere_eq_nil, show (∀ c : Fin 8, curveRising look.curves[c] = true)
    ↔ placesWhere (fun c => !curveRising c) look.curves = [] by simp [placesWhere_eq_nil]]
  unfold firstFailure
  cases placesWhere (tileFails types) look.tiles <;> cases placesWhere (fun c => !curveRising c) look.curves <;> simp

theorem typeAt_writeRun_ne (types : Vector (Option TileType) 8) {id k : Nat} (entry : Option TileType) (h : k ≠ id) :
    typeAt (writeRun types id [entry]) k = typeAt types k := by
  by_cases hk : k < 8
  · rw [typeAt, typeAt, Vector.getElem?_eq_getElem hk, Vector.getElem?_eq_getElem hk,
      writeRun_singleton_getElem _ _ _ _ hk, if_neg h]
  · simp [typeAt, hk]

/-- R37: an entry that no present tile of a look names does not matter to its check. -/
theorem firstFailure_writeRun {types : Vector (Option TileType) 8} {look : Look} {id : Nat} (entry : Option TileType)
    (hn : lookNames look id = false) (h : firstFailure types look = none) :
    firstFailure (writeRun types id [entry]) look = none := by
  obtain ⟨htiles, hcurves⟩ := (firstFailure_eq_none_iff _ _).mp h
  refine (firstFailure_eq_none_iff _ _).mpr ⟨fun i => ?_, hcurves⟩
  by_cases hp : look.tiles[i].present = true
  · have hid : look.tiles[i].typeId ≠ id := fun hid => by
      simp [(lookNames_iff look id).mpr ⟨i, hp, hid⟩] at hn
    rw [tileFails, typeAt_writeRun_ne _ _ hid]
    exact htiles i
  · simp only [tileFails, hp, Bool.false_and]

theorem pointAt_defaultCurve (k : Nat) (h : k < 33) :
    pointAt Look.defaultCurve k = if k = 32 then 65535 else 2048 * k := by
  simp [pointAt, Look.defaultCurve, h]

theorem firstFailure_default (types : Vector (Option TileType) 8) : firstFailure types Look.default = none := by
  refine (firstFailure_eq_none_iff _ _).mpr ⟨fun i => by simp [Look.default, TileEntry.blank, tileFails], fun c => ?_⟩
  simp only [Look.default, Fin.getElem_fin, Vector.getElem_replicate, curveRising, List.all_eq_true, List.mem_range,
    decide_eq_true_eq]
  intro k hk
  rw [pointAt_defaultCurve k (by omega), pointAt_defaultCurve (k + 1) (by omega)]
  split <;> split <;> omega

/-- R27: the two banks and their roles. -/
theorem typeInUse_eq (l : LookStore) (id : Nat) :
    typeInUse l id = (lookNames l.active id || lookNames l.stagedLook id) := by
  unfold typeInUse LookStore.active LookStore.stagedLook
  cases l.activeIsBank1 <;> simp [Bool.or_comm]

@[simp] theorem swapRoles_active (l : LookStore) : (swapRoles l).active = l.stagedLook := by
  unfold swapRoles LookStore.active LookStore.stagedLook; cases l.activeIsBank1 <;> rfl

@[simp] theorem swapRoles_stagedLook (l : LookStore) : (swapRoles l).stagedLook = l.active := by
  unfold swapRoles LookStore.active LookStore.stagedLook; cases l.activeIsBank1 <;> rfl

@[simp] theorem tablesReset_active (l : LookStore) : l.tablesReset.active = Look.default := ite_self _

@[simp] theorem tablesReset_stagedLook (l : LookStore) : l.tablesReset.stagedLook = Look.default := ite_self _

/-- R27, R28, R37, R40, R42, R46: every change of the look store keeps its law. -/
theorem LookLaw.change {s : State} {l : LookStore} (hs : LookLaw s) (h : LookChange s.looks l) :
    LookLaw { s with looks := l } := by
  obtain ⟨hactive, hstaged, hends, hidle⟩ := hs
  cases h with
  | write look hfree =>
    refine ⟨?_, nofun, by simpa using hends, fun _ => by simpa using hidle hfree⟩
    show firstFailure (s.looks.setStaged look).types (s.looks.setStaged look).active = none
    simpa using hactive
  | copy hfree =>
    refine ⟨?_, fun _ => ?_, by simpa using hends, fun _ => by simpa using hidle hfree⟩
    · show firstFailure (s.looks.setStaged s.looks.active).types (s.looks.setStaged s.looks.active).active = none
      simpa using hactive
    · show firstFailure (s.looks.setStaged s.looks.active).types (s.looks.setStaged s.looks.active).stagedLook = none
      simpa using hactive
  | beginCheck hfree => exact ⟨hactive, nofun, by simp, fun _ => rfl⟩
  | complete hchecking =>
    refine ⟨hactive, fun hpass => ?_, by simp [LookStore.completeCheck], fun _ => rfl⟩
    simp only [LookStore.completeCheck, stagedAfterCheck] at hpass
    split at hpass
    · exact absurd hpass (by simp)
    · assumption
  | countEnd hchecking => exact ⟨hactive, hstaged, le_refl 1, fun hne => absurd hchecking hne⟩
  | tileType id entry hunused =>
    simp only [typeInUse_eq, Bool.or_eq_false_iff] at hunused
    exact ⟨firstFailure_writeRun entry hunused.1 hactive,
      fun hc => firstFailure_writeRun entry hunused.2 (hstaged hc), hends, hidle⟩
  | swap hchecked =>
    exact ⟨by rw [swapRoles_active]; exact hstaged hchecked, fun _ => by rw [swapRoles_stagedLook]; exact hactive,
      hends, hidle⟩
  | softReset =>
    unfold LookStore.softReset
    split
    · exact ⟨hactive, nofun, by simp, fun _ => rfl⟩
    · exact ⟨hactive, hstaged, hends, hidle⟩
  | tablesReset =>
    refine ⟨?_, fun _ => ?_, by simp [LookStore.tablesReset], fun _ => rfl⟩
    · rw [tablesReset_active]; exact firstFailure_default _
    · rw [tablesReset_stagedLook]; exact firstFailure_default _

/-! ## How many pages are in a role (R7) -/

theorem roleCount_eq (r : PageRole) (pages : Vector Page 3) :
    roleCount r pages =
      (if pages[(0 : Fin 3)].role = r then 1 else 0) + (if pages[(1 : Fin 3)].role = r then 1 else 0)
        + (if pages[(2 : Fin 3)].role = r then 1 else 0) := by
  have hl : pages.toList = [pages[(0 : Fin 3)], pages[(1 : Fin 3)], pages[(2 : Fin 3)]] :=
    List.ext_getElem (by simp) fun i h _ => by
      simp only [Vector.length_toList] at h
      interval_cases i <;> simp
  simp [roleCount, hl, List.countP_cons]
  omega

theorem roleCount_eq_zero_iff (r : PageRole) (pages : Vector Page 3) :
    roleCount r pages = 0 ↔ pageIn r pages = none := by
  simp [pageIn_eq_none, roleCount_eq, Fin.forall_fin_succ, and_assoc]

/-- R7: a page that changes its role counts for the new role and no more for the old one. -/
theorem roleCount_modifyAt (r q : PageRole) (i : Fin 3) (pages : Vector Page 3) (f : Page → Page)
    (hf : (f pages[i]).role = q) :
    roleCount r (modifyAt pages i f) + (if pages[i].role = r then 1 else 0)
      = roleCount r pages + (if q = r then 1 else 0) := by
  subst hf
  simp only [roleCount_eq, Fin.getElem_fin, modifyAt_getElem]
  fin_cases i <;> simp <;> omega

theorem roleCount_setRole (r q : PageRole) (i : Fin 3) (pages : Vector Page 3) :
    roleCount r (setRole q i pages) + (if pages[i].role = r then 1 else 0)
      = roleCount r pages + (if q = r then 1 else 0) :=
  roleCount_modifyAt r q i pages _ rfl

/-- R7: every page of one role given another. -/
theorem roleCount_moveRole (old new r : PageRole) (h : old ≠ new) (pages : Vector Page 3) :
    roleCount r (moveRole old new pages) =
      if r = old then 0 else roleCount r pages + (if r = new then roleCount old pages else 0) := by
  have hone : ∀ p : Page, (if (if p.role = old then { p with role := new } else p).role = r then 1 else 0)
      = if r = old then 0 else (if p.role = r then 1 else 0) + (if r = new then (if p.role = old then 1 else 0) else 0) := by
    intro p
    split_ifs <;> simp_all
  simp only [roleCount_eq, Fin.getElem_fin, moveRole_getElem, hone]
  split_ifs <;> omega

/-! ## The frame pages (R2–R8) -/

theorem pageIn_write_of_open {s : State} (hs : PageLaw s) (h : s.link.assembly = .open) :
    ∃ p, pageIn .write s.store.pages = some p := by
  refine Option.ne_none_iff_exists'.mp fun hn => ?_
  have hw := hs.1
  rw [(roleCount_eq_zero_iff _ _).mpr hn, if_pos h] at hw
  exact absurd hw (by simp)

theorem roleCount_total (pages : Vector Page 3) :
    roleCount .free pages + roleCount .write pages + roleCount .latest pages + roleCount .read pages = 3 := by
  have hone : ∀ r : PageRole, (if r = .free then 1 else 0) + (if r = .write then 1 else 0)
      + (if r = .latest then 1 else 0) + (if r = .read then 1 else 0) = 1 := fun r => by cases r <;> rfl
  have h0 := hone pages[(0 : Fin 3)].role
  have h1 := hone pages[(1 : Fin 3)].role
  have h2 := hone pages[(2 : Fin 3)].role
  simp only [roleCount_eq]
  omega

/-- R2, R3: with no input frame open a page is FREE. -/
theorem pageIn_free_of_not_open {s : State} (hs : PageLaw s) (h : s.link.assembly ≠ .open) :
    ∃ p, pageIn .free s.store.pages = some p := by
  obtain ⟨hwrite, hlatest, hread, -⟩ := hs
  refine Option.ne_none_iff_exists'.mp fun hn => ?_
  have hfree := (roleCount_eq_zero_iff _ _).mpr hn
  have htotal := roleCount_total s.store.pages
  rw [if_neg h] at hwrite
  split at hread <;> omega

/-- What each page of the store keeps: its content in canonical form, and a size where it is in use. -/
def PageOk (p : Page) : Prop := p.wf = true ∧ (p.role ≠ .free → p.size.isSome = true)

theorem PageOk.role {p : Page} (h : PageOk p) (r : PageRole) (hr : r ≠ .free → p.role ≠ .free) :
    PageOk { p with role := r } :=
  ⟨Page.role_wf h.1 r, fun hn => h.2 (hr hn)⟩

theorem PageOk.take {p : Page} (h : PageOk p) (seq : BitVec 16) (width height : Nat) (fill : Rgb) :
    PageOk (p.take seq width height fill) := by
  refine ⟨Page.take_wf h.1 seq width height fill, fun _ => ?_⟩
  unfold Page.take
  split
  · next hsize => simp [hsize]
  · rfl

theorem Page.take_role (p : Page) (seq : BitVec 16) (width height : Nat) (fill : Rgb) :
    (p.take seq width height fill).role = .write := by
  unfold Page.take; split <;> rfl

/-- R7: pages that keep what each of them keeps, and counts of roles as the law has them. -/
theorem PageLaw.of_counts {s : State} {l : LinkReceiver} {st : FrameStore}
    (hwrite : roleCount .write st.pages = if l.assembly = .open then 1 else 0) (hlatest : roleCount .latest st.pages ≤ 1)
    (hread : roleCount .read st.pages = if st.everRead then 1 else 0) (hpages : ∀ i : Fin 3, PageOk st.pages[i]) :
    PageLaw { s with link := l, store := st } :=
  ⟨hwrite, hlatest, hread, hpages⟩

theorem PageOk.setRole {pages : Vector Page 3} (h : ∀ i : Fin 3, PageOk pages[i]) {r : PageRole} {p : Fin 3}
    (hr : r ≠ .free → pages[p].role ≠ .free) (i : Fin 3) : PageOk (setRole r p pages)[i] := by
  rw [Fin.getElem_fin, setRole_getElem]
  split
  · next hi => obtain rfl : i = p := Fin.ext hi; exact (h i).role r hr
  · exact h i

theorem PageOk.moveRole {pages : Vector Page 3} (h : ∀ i : Fin 3, PageOk pages[i]) {old new : PageRole}
    (hr : new ≠ .free → old ≠ .free) (i : Fin 3) : PageOk (moveRole old new pages)[i] := by
  rw [Fin.getElem_fin, moveRole_getElem]
  split
  · next hi => exact (h i).role new fun hn => by rw [Fin.getElem_fin, hi]; exact hr hn
  · exact h i

/-- R4: a line judged good lies in the raster of the page it is written to. -/
theorem judgeLine_pages {s : State} (hs : PageLaw s) (line count : Nat) (px : List Rgb) (ok : Bool) :
    (∀ r, roleCount r (judgeLine line count px ok s).store.pages = roleCount r s.store.pages)
      ∧ ∀ i : Fin 3, PageOk (judgeLine line count px ok s).store.pages[i] := by
  obtain ⟨-, -, -, hpages⟩ := hs
  unfold judgeLine
  split
  · next hgood =>
    simp only
    split
    · exact ⟨fun _ => rfl, hpages⟩
    · next p hp =>
      simp only [lineGood, writePage, hp, Bool.and_eq_true, beq_iff_eq, decide_eq_true_eq] at hgood
      obtain ⟨⟨⟨-, hlen⟩, hline⟩, hwidth⟩ := hgood
      refine ⟨fun r => ?_, fun i => ?_⟩
      · exact Nat.add_right_cancel (roleCount_modifyAt r s.store.pages[p].role p s.store.pages (·.writeLine line px) rfl)
      · rw [Fin.getElem_fin, modifyAt_getElem]
        split
        · next hi => exact ⟨Page.writeLine_wf (hpages p).1 hline (hlen.trans hwidth), fun hn => (hpages p).2 hn⟩
        · exact hpages i
  · exact ⟨fun _ => rfl, hpages⟩

@[simp] theorem judgeLine_assembly (line count : Nat) (px : List Rgb) (ok : Bool) (s : State) :
    (judgeLine line count px ok s).link.assembly = s.link.assembly := by
  unfold judgeLine; split <;> rfl

@[simp] theorem judgeLine_everRead (line count : Nat) (px : List Rgb) (ok : Bool) (s : State) :
    (judgeLine line count px ok s).store.everRead = s.store.everRead := by
  unfold judgeLine
  split
  · simp only; split <;> rfl
  · rfl

/-- R5, R6: the pages after an input frame has closed. -/
theorem closeInput_store {s : State} {p : Fin 3} (hp : pageIn .write s.store.pages = some p) :
    (closeInput s).store =
      if missingLines s.link.good s.store.pages[p].height ≤ s.store.missingLimit then acceptPage p s.store
      else rejectPage p s.store := by
  simp only [closeInput, hp]

/-- R2, R3: the pages after an input frame has opened. -/
theorem openInput_store {s : State} {p : Fin 3} (hp : pageIn .free s.store.pages = some p) (seq : BitVec 16)
    (width height : Nat) :
    (openInput seq width height s).store =
      { s.store with pages := modifyAt s.store.pages p fun q => q.take seq width height s.store.fill } := by
  simp only [openInput, hp]

/-- R2–R8: every change of the link receiver and the frame store keeps the law on page roles. -/
theorem PageLaw.input {s : State} {l : LinkReceiver} {st : FrameStore} (hs : PageLaw s) (h : InputChange s l st) :
    PageLaw { s with link := l, store := st } := by
  have hlaw := hs
  obtain ⟨hwrite, hlatest, hread, hpages⟩ := hs
  cases h with
  | close hopen =>
    obtain ⟨p, hp⟩ := pageIn_write_of_open hlaw hopen
    obtain ⟨hrole, -⟩ := pageIn_eq_some hp
    rw [if_pos hopen] at hwrite
    rw [closeInput_store hp]
    split
    · have hset := fun r => roleCount_setRole r .latest p (moveRole .latest .free s.store.pages)
      have hkept : (moveRole .latest .free s.store.pages)[p].role = .write := by
        simp only [Fin.getElem_fin] at hrole
        simp [hrole]
      simp only [roleCount_moveRole .latest .free _ (by simp), hkept] at hset
      refine PageLaw.of_counts ?_ ?_ (Eq.trans ?_ hread) (PageOk.setRole (PageOk.moveRole hpages (by simp)) fun _ => by simp only [hkept]; simp)
      · have := hset .write; simp [closeInput, acceptPage] at this ⊢; omega
      · have := hset .latest; simp [acceptPage] at this ⊢; omega
      · have := hset .read; simp [acceptPage] at this ⊢; omega
    · have hset := fun r => roleCount_setRole r .free p s.store.pages
      simp only [hrole] at hset
      refine PageLaw.of_counts ?_ ?_ (Eq.trans ?_ hread) (PageOk.setRole hpages (by simp))
      · have := hset .write; simp [closeInput, rejectPage] at this ⊢; omega
      · have := hset .latest; simp [rejectPage] at this ⊢; omega
      · have := hset .read; simp [rejectPage] at this ⊢; omega
  | take seq width height hclosed =>
    obtain ⟨p, hp⟩ := pageIn_free_of_not_open hlaw hclosed
    obtain ⟨hrole, -⟩ := pageIn_eq_some hp
    rw [if_neg hclosed] at hwrite
    rw [openInput_store hp]
    have hset := fun r => roleCount_modifyAt r .write p s.store.pages
      (fun q => q.take seq width height s.store.fill) (Page.take_role _ _ _ _ _)
    simp only [hrole] at hset
    refine PageLaw.of_counts ?_ ?_ ?_ fun i => ?_
    · have := hset .write; simp [openInput] at this ⊢; omega
    · have := hset .latest; simp at this ⊢; omega
    · have := hset .read; simp [← hread] at this ⊢; omega
    · simp only [Fin.getElem_fin, modifyAt_getElem]
      split
      · exact PageOk.take (hpages p) _ _ _ _
      · exact hpages i
  | reject hclosed =>
    rw [if_neg hclosed] at hwrite
    exact PageLaw.of_counts (by simpa using hwrite) hlatest hread hpages
  | line line count px ok hopen =>
    obtain ⟨hcounts, hok⟩ := judgeLine_pages hlaw line count px ok
    exact PageLaw.of_counts (by rw [hcounts, judgeLine_assembly]; exact hwrite) (by rw [hcounts]; exact hlatest)
      (by rw [hcounts, judgeLine_everRead]; exact hread) hok
  | settings st hp hr hc =>
    exact PageLaw.of_counts (by rw [hp]; exact hwrite) (by rw [hp]; exact hlatest) (by rw [hp, hr]; exact hread)
      (by rw [hp]; exact hpages)

/-- R8: the frame store's work at a frame start keeps the law on page roles. -/
theorem PageLaw.settle {s : State} (hs : PageLaw s) : PageLaw { s with store := settlePages s.store } := by
  obtain ⟨hwrite, hlatest, hread, hpages⟩ := hs
  unfold settlePages
  split
  · next p hp =>
    have hpos : roleCount .latest s.store.pages ≠ 0 := fun h0 => by
      rw [(roleCount_eq_zero_iff _ _).mp h0] at hp; simp at hp
    have hfreed := fun r => roleCount_moveRole .read .free r (by simp) s.store.pages
    have hmoved := fun r => roleCount_moveRole .latest .read r (by simp) (moveRole .read .free s.store.pages)
    simp only [hfreed] at hmoved
    refine PageLaw.of_counts (l := s.link) ?_ ?_ ?_ (PageOk.moveRole (PageOk.moveRole hpages (by simp)) (by simp))
    · have := hmoved .write; simp at this ⊢; omega
    · have := hmoved .latest; simp at this ⊢; omega
    · have := hmoved .read; simp at this ⊢; omega
  · exact PageLaw.of_counts (l := s.link) hwrite hlatest hread hpages

end Sys2Proof.Machine
end

section
/-! The laws of the chain ports, the limiters, the zones, the cue queue and the masters, kept by every change of their
blocks (R47–R60, R84–R93, R105–R109, R113–R127, R142). -/

namespace Sys2Proof.Machine

/-! ## The chain ports (R47–R60) -/

/-- A port in neither OFF nor RUN: only its marks and list lengths are held to the law. -/
theorem PortLaw.of_between {p : ChainPort} (hr : p.roster.length ≤ 16) (hc : p.collection.length ≤ 16)
    (hoff : p.state ≠ .off) (hrun : p.state ≠ .run) (hw : p.windowOpen = true → p.state = .probe ∨ p.state = .enumerate)
    (ha : p.answered = true → p.state = .probe) (hn : p.newlyEnabled = true → p.state = .probe ∧ p.windowOpen = false) :
    PortLaw p :=
  ⟨hr, hc, fun h => absurd h hoff, fun h => absurd h hrun, hw, ha, hn⟩

/-- R49: a SET_CHAIN at one port. -/
theorem PortLaw.configure {p : ChainPort} (hp : PortLaw p) (cfg : ChainConfig) : PortLaw (p.configure cfg) := by
  have hlaw := hp
  obtain ⟨hr, hc, hoff, hrun, hw, ha, hn⟩ := hp
  unfold ChainPort.configure
  split
  · next hstate =>
    refine PortLaw.of_between hr hc (by simp) (by simp) (by simp) (fun _ => rfl) (fun _ => ⟨rfl, rfl⟩)
  · exact hlaw
  · exact hlaw
  · exact ⟨by simp [ChainPort.disable], by simp [ChainPort.disable], fun _ => ⟨rfl, rfl⟩, nofun, nofun, nofun, nofun⟩

theorem PortLaw.restart {p : ChainPort} (hp : PortLaw p) : PortLaw p.restart :=
  PortLaw.of_between hp.1 (by simp [ChainPort.restart]) nofun nofun nofun nofun nofun

theorem PortLaw.fail {p : ChainPort} (hp : PortLaw p) (h : p.state = .run) : PortLaw p.fail := by
  obtain ⟨hr, hc, hoff, hrun, hw, ha, hn⟩ := hp
  refine PortLaw.of_between hr hc nofun nofun (fun hopen => ?_) (fun hans => ?_) (fun hnew => ?_)
  · have := hw hopen; simp [h] at this
  · have := ha hans; simp [h] at this
  · have := (hn hnew).1; simp [h] at this

theorem PortLaw.frameStart {p : ChainPort} (hp : PortLaw p) : PortLaw p.frameStart := by
  have hlaw := hp
  obtain ⟨hr, hc, hoff, hrun, hw, ha, hn⟩ := hp
  unfold ChainPort.frameStart
  split
  · next hstate =>
    split
    · next hprobes =>
      refine PortLaw.of_between hr hc (by simp [hstate]) (by simp [hstate]) (fun _ => .inl hstate) (fun _ => hstate) ?_
      intro hnew
      simp only [ChainPort.probes, Bool.and_eq_true, Bool.not_eq_true'] at hprobes
      exact absurd hnew (by simp [hprobes.2])
    · exact PortLaw.of_between hr hc (by simp [hstate]) (by simp [hstate]) hw ha nofun
  · next hstate =>
    refine PortLaw.of_between hr (by simp) (by simp [hstate]) (by simp [hstate]) (fun _ => .inr hstate) ha ?_
    intro hnew
    have := (hn hnew).1; simp [hstate] at this
  · exact hlaw
  · exact hlaw
  · exact hlaw

/-- R48–R59: a port keeps its law through every change that neither enters nor leaves RUN. -/
theorem PortLaw.change {p q : ChainPort} (hp : PortLaw p) (h : PortChange p q) : PortLaw q := by
  have hlaw := hp
  obtain ⟨hr, hc, hoff, hrun, hw, ha, hn⟩ := hp
  cases h with
  | configure cfg h => exact hlaw.configure cfg
  | restart h => exact hlaw.restart
  | answered h => exact ⟨hr, hc, hoff, hrun, hw, fun _ => h, hn⟩
  | collect i h => exact ⟨hr, by simp; omega, hoff, hrun, hw, ha, hn⟩
  | recover h =>
    refine PortLaw.of_between hr hc (by simp) (by simp) nofun (fun hans => ?_) nofun
    have := ha hans; simp [h] at this
  | frameStart => exact hlaw.frameStart
  | closeProbe h =>
    refine PortLaw.of_between hr hc ?_ ?_ nofun nofun nofun <;> simp only [ChainPort.closeProbe] <;> split <;> simp
  | enumFail h =>
    refine PortLaw.of_between hr hc nofun nofun nofun (fun hans => ?_) nofun
    have := ha hans; simp [h] at this
  | clearFault =>
    unfold ChainPort.clearFault
    split
    · next h =>
      refine PortLaw.of_between hr hc (by simp) (by simp) nofun (fun hans => ?_) nofun
      have := ha hans; simp [h.1] at this
    · exact hlaw
  | _ => exact hlaw

theorem PortLaw.leaves {p q : ChainPort} (hp : PortLaw p) (h : PortLeaves p q) : PortLaw q := by
  cases h with
  | disable cfg h hr => exact hp.configure cfg
  | restart => exact hp.restart
  | fail h => exact hp.fail h

theorem PortLaw.install {p : ChainPort} (hp : PortLaw p) (h : p.state = .enumerate) (hc : p.collection ≠ []) :
    PortLaw p.install := by
  obtain ⟨-, hlen, -, -, -, ha, hn⟩ := hp
  refine ⟨hlen, by simp [ChainPort.install], nofun, fun _ => ⟨hc, rfl⟩, nofun, fun hans => ?_, fun hnew => ?_⟩
  · have := ha hans; simp [h] at this
  · have := (hn hnew).1; simp [h] at this

/-- A table law that one entry's new value meets. -/
theorem modifyAt_forall {α : Type} {n : Nat} {P : α → Prop} {v : Vector α n} {i : Fin n} {f : α → α}
    (h : ∀ j : Fin n, P v[j]) (hi : P v[i] → P (f v[i])) (j : Fin n) : P (modifyAt v i f)[j] := by
  rw [Fin.getElem_fin, modifyAt_getElem]
  split
  · exact hi (h i)
  · exact h j

/-- R48–R59: every change of the ports keeps their law. -/
theorem ChainLaw.change {s : State} {ps : Vector ChainPort 8} {ls : Vector Limiter 8} (hs : ChainLaw s)
    (h : ChainChange s ps ls) : ChainLaw { s with ports := ps, power := { s.power with limiters := ls } } := by
  cases h with
  | ports ps h => exact fun c => (hs c).change (h c)
  | leave c p acc h ha => exact modifyAt_forall hs fun hp => hp.leaves h
  | install c h hc => exact modifyAt_forall hs fun hp => hp.install h hc
  | _ => exact hs

/-! ## The limiters (R89–R93) -/

/-- A change that neither enters nor leaves RUN. -/
theorem PortChange.run_iff {p q : ChainPort} (h : PortChange p q) : q.state = .run ↔ p.state = .run := by
  cases h with
  | configure cfg h =>
    unfold ChainPort.configure
    split <;> simp_all [ChainPort.disable]
  | restart h => simpa [ChainPort.restart] using h
  | recover h => simp [h]
  | frameStart =>
    unfold ChainPort.frameStart
    split <;> (try split) <;> simp_all
  | closeProbe h => simp only [ChainPort.closeProbe, h]; split <;> simp
  | enumFail h => simp [ChainPort.enumFail, h]
  | clearFault => unfold ChainPort.clearFault; split <;> simp_all
  | _ => exact Iff.rfl

theorem limiterTarget_le (acc budget : Nat) : limiterTarget acc budget ≤ 4096 := by
  unfold limiterTarget
  split
  · exact le_refl _
  · exact Nat.div_le_of_le_mul (Nat.mul_le_mul_right _ (by omega))

/-- R92: a scale stays within 0–4096. -/
theorem limiterScale_le {scale target release : Nat} (ht : target ≤ 4096) : limiterScale scale target release ≤ 4096 := by
  unfold limiterScale; split <;> omega

/-- R89–R93: every change of the ports and the limiters keeps the law of the limiters. -/
theorem LimiterLaw.change {s : State} {ps : Vector ChainPort 8} {ls : Vector Limiter 8} (hs : LimiterLaw s)
    (h : ChainChange s ps ls) : LimiterLaw { s with ports := ps, power := { s.power with limiters := ls } } := by
  intro d
  obtain ⟨hscale, hidle, hacc⟩ := hs d
  cases h with
  | ports ps h => exact ⟨hscale, fun hn => hidle fun hr => hn ((h d).run_iff.mpr hr), hacc⟩
  | leave c p acc h ha =>
    by_cases hd : d.val = c.val
    · obtain rfl : d = c := Fin.ext hd
      simpa using fun hp => (ha hp).trans (hacc hp)
    · simpa [hd] using hs d
  | install c h hc =>
    by_cases hd : d.val = c.val
    · obtain rfl : d = c := Fin.ext hd
      simpa using hacc
    · simpa [hd] using hs d
  | measure =>
    simp only [markMeasured, Fin.getElem_fin, Vector.getElem_ofFn]
    split
    · next hr => exact ⟨hscale, fun hn => absurd hr hn, hacc⟩
    · exact ⟨hscale, hidle, hacc⟩
  | demand h =>
    refine ⟨?_, ?_, fun hp => absurd h hp⟩ <;> simp only [addDemand, Fin.getElem_fin, Vector.getElem_ofFn] <;> split
    · exact hscale
    · exact hscale
    · exact hidle
    · exact hidle
  | scale c h =>
    by_cases hd : d.val = c.val
    · obtain rfl : d = c := Fin.ext hd
      simp only [evaluated, Bool.and_eq_true, beq_iff_eq] at h
      have hnew : newScale s d ≤ 4096 := limiterScale_le (limiterTarget_le _ _)
      simpa [hnew] using fun hn => absurd h.1 hn
    · simpa [hd] using hs d
  | clearAcc c =>
    by_cases hd : d.val = c.val
    · obtain rfl : d = c := Fin.ext hd
      simpa using ⟨hscale, hidle⟩
    · simpa [hd] using hs d

/-! ## The zones (R98–R109) -/

/-- R105: the law of one zone, where `black` says that GLOBAL response holds every zone at 0. -/
def ZoneOk (black : Prop) (z : Zone) : Prop :=
  z.scale ≤ 4096 ∧ (z.state = .shutdown → z.scale = 0) ∧ (black → z.scale = 0)

/-- R106: GLOBAL response with a zone in SHUTDOWN. -/
def Thermal.black (t : Thermal) : Prop := t.config.response = .global ∧ ∃ y : Fin 16, t.zones[y].state = .shutdown

theorem zoneLaw_iff (s : State) :
    ZoneLaw s ↔ s.thermal.config.derate ≤ 4096 ∧ ∀ z : Fin 16, ZoneOk s.thermal.black s.thermal.zones[z] := by
  simp only [ZoneLaw, ZoneOk, Thermal.black, anyShutdown_iff, and_imp]

theorem ZoneOk.mono {b b' : Prop} {z : Zone} (h : ZoneOk b z) (hb : b' → b) : ZoneOk b' z :=
  ⟨h.1, h.2.1, fun hb' => h.2.2 (hb hb')⟩

theorem moveScale_le {scale target step b : Nat} (ht : target ≤ b) : moveScale scale target step ≤ b := by
  unfold moveScale; split <;> omega

theorem scaleTarget_le {t : Thermal} (hd : t.config.derate ≤ 4096) (z : Zone) : scaleTarget t z ≤ 4096 := by
  unfold scaleTarget stateTarget
  split
  · simp
  · split <;> simp [hd]

/-- R105: a zone whose target is 0 is put to 0. -/
theorem moveScale_zero (scale step : Nat) : moveScale scale 0 step = 0 := by
  unfold moveScale; split <;> omega

theorem scaleTarget_shutdown {t : Thermal} {z : Zone} (h : z.state = .shutdown) : scaleTarget t z = 0 := by
  simp [scaleTarget, stateTarget, h]

theorem scaleTarget_black {t : Thermal} (z : Zone) (h : t.black) : scaleTarget t z = 0 :=
  if_pos ⟨h.1, (anyShutdown_iff _).mpr h.2⟩

theorem setScales_getElem (t : Thermal) (z : Fin 16) :
    (setScales t).zones[z] =
      { t.zones[z] with scale := moveScale t.zones[z].scale (scaleTarget t t.zones[z]) t.config.recoveryStep } := by
  simp [setScales]

/-- R105: a zone with its scale moved. -/
theorem ZoneOk.moveScale {t : Thermal} (hd : t.config.derate ≤ 4096) (z : Zone) (step : Nat) :
    ZoneOk t.black { z with scale := Machine.moveScale z.scale (scaleTarget t z) step } := by
  refine ⟨moveScale_le (scaleTarget_le hd z), fun h => ?_, fun h => ?_⟩
  · show Machine.moveScale z.scale (scaleTarget t z) step = 0
    rw [scaleTarget_shutdown (z := z) h, moveScale_zero]
  · show Machine.moveScale z.scale (scaleTarget t z) step = 0
    rw [scaleTarget_black z h, moveScale_zero]

/-- R102–R104: one zone put through an operation that moves it into no SHUTDOWN makes no zone black. -/
theorem Thermal.black_of_modify {t : Thermal} {z : Fin 16} {f : Zone → Zone}
    (hf : ∀ r, (f r).state = .shutdown → r.state = .shutdown)
    (h : Thermal.black { t with zones := modifyAt t.zones z f }) : t.black := by
  obtain ⟨hg, y, hy⟩ := h
  refine ⟨hg, y, ?_⟩
  simp only [Fin.getElem_fin, modifyAt_getElem] at hy ⊢
  split at hy
  · next hyz => simp only [hyz]; exact hf _ hy
  · exact hy

theorem Thermal.black_of_mapAll {t : Thermal} {f : Zone → Zone} (hf : ∀ r, (f r).state = .shutdown → r.state = .shutdown)
    (h : Thermal.black { t with zones := mapAll f t.zones }) : t.black := by
  obtain ⟨hg, y, hy⟩ := h
  simp only [Fin.getElem_fin, mapAll_getElem] at hy
  exact ⟨hg, y, hf _ hy⟩

theorem Zone.clearFault_cases (cfg : ThermalConfig) (z : Zone) :
    z.clearFault cfg = z ∨ z.clearFault cfg = { z with state := .hot, down := 0 } := by
  unfold Zone.clearFault; split <;> simp

/-- R98–R109: every change of the thermal block keeps the law of the zones. -/
theorem ZoneLaw.change {s : State} {t : Thermal} (hs : ZoneLaw s) (h : ThermalChange s t) :
    ZoneLaw { s with thermal := t } := by
  rw [zoneLaw_iff] at hs ⊢
  obtain ⟨hd, hz⟩ := hs
  cases h with
  | count z members e =>
    refine ⟨hd, fun y => ZoneOk.mono (b := s.thermal.black) ?_ (Thermal.black_of_modify fun _ h => h)⟩
    exact modifyAt_forall hz id y
  | move z st hst =>
    refine ⟨hd, fun y => ZoneOk.mono (b := s.thermal.black) ?_ (Thermal.black_of_modify fun _ h => absurd h hst)⟩
    exact modifyAt_forall hz (fun ⟨hle, _, hb⟩ => ⟨hle, fun h => absurd h hst, hb⟩) y
  | shut z =>
    unfold blackOut
    split
    · next hresp =>
      have hzone : s.thermal.config.response = .zone := hresp
      refine ⟨hd, fun y => ?_⟩
      have hy := hz y
      simp only [moveZone, State.modifyZone_thermal, Fin.getElem_fin, modifyAt_getElem]
      split
      · exact ⟨by simp, fun _ => rfl, fun _ => rfl⟩
      · exact ⟨hy.1, hy.2.1, fun hb => by have := hb.1; simp [hzone] at this⟩
    · exact ⟨hd, fun y => by simp [ZoneOk]⟩
  | scales =>
    refine ⟨hd, fun y => ?_⟩
    have hblack : (setScales s.thermal).black → s.thermal.black := fun ⟨hg, x, hx⟩ => ⟨hg, x, by simpa [setScales] using hx⟩
    show ZoneOk _ (setScales s.thermal).zones[y]
    rw [setScales_getElem]
    exact ZoneOk.mono (ZoneOk.moveScale hd _ _) hblack
  | config cfg h =>
    refine ⟨h, fun y => ?_⟩
    simp only [setThermal]
    split
    · simp [ZoneOk]
    · next hblack =>
      obtain ⟨hle, hshut, -⟩ := hz y
      exact ⟨hle, hshut, fun hb => absurd ⟨hb.1, (anyShutdown_iff _).mpr hb.2⟩ hblack⟩
  | clearFaults =>
    refine ⟨hd, fun y => ZoneOk.mono (b := s.thermal.black) ?_ (Thermal.black_of_mapAll fun r h => ?_)⟩
    · simp only [Fin.getElem_fin, mapAll_getElem]
      obtain e | e := Zone.clearFault_cases s.thermal.config s.thermal.zones[y.val] <;> rw [e]
      · exact hz y
      · exact ⟨(hz y).1, nofun, (hz y).2.2⟩
    · obtain e | e := Zone.clearFault_cases s.thermal.config r <;> rw [e] at h
      · exact h
      · exact absurd h (by simp)

/-! ## The masters (R84–R88, R142, R143) -/

/-- R84, R87, R142, R143: every change of a master keeps its law, where every cue of the queue is in range. -/
theorem RampLaw.change {queue : List Cue} {value v : Nat} {r r' : Ramp} (hr : RampLaw value r)
    (hq : ∀ c ∈ queue, CueOk c) (h : MasterChange queue value r v r') : RampLaw v r' := by
  obtain ⟨hv, hactive⟩ := hr
  cases h with
  | begin target frames ht =>
    have htarget : target ≤ 4096 := by
      obtain ht | ⟨c, hc, m, hm, rfl⟩ := ht
      · exact ht
      · obtain ⟨-, -, -, -, hmaster, hlight, -⟩ := hq c hc
        exact hm.elim (hmaster m) (hlight m)
    exact ⟨hv, fun _ => ⟨hv, htarget, .inr rfl⟩⟩
  | step =>
    unfold Ramp.value Ramp.step
    split
    · next ha =>
      obtain ⟨hs, ht, -⟩ := hactive ha
      refine ⟨?_, fun hnext => ⟨hs, ht, .inl ?_⟩⟩
      · split
        · exact ht
        · exact interpolate_le hs ht (by omega)
      · simp only [decide_eq_true_eq] at hnext ⊢
        split <;> omega
    · exact ⟨hv, hactive⟩
  | freeze => exact ⟨hv, nofun⟩

/-! ## The cue queue (R113–R127) -/

/-- R116, R121: what stays of a cue keeps its id and its law. -/
theorem afterWalk_cases (m : BitVec 32) (c : Cue) :
    c.afterWalk m = [] ∨ ∃ d, c.afterWalk m = [d] ∧ d.id = c.id ∧ (CueOk c → CueOk d) := by
  unfold Cue.afterWalk
  split
  · unfold Cue.settle
    split
    · exact .inl rfl
    · next r hrep =>
      split
      · next h0 =>
        refine .inr ⟨_, rfl, rfl, fun ⟨h1, h2, h3, h4, h5, h6, h7⟩ => ⟨h1, h2, h3, h4, h5, h6, ?_⟩⟩
        rintro _ ⟨⟩
        exact h7 r hrep
      · split
        · exact .inl rfl
        · next h0 h1 =>
          refine .inr ⟨_, rfl, rfl, fun ⟨h1, h2, h3, h4, h5, h6, h7⟩ => ⟨h1, h2, h3, h4, h5, h6, ?_⟩⟩
          rintro _ ⟨⟩
          obtain ⟨hp, hcount⟩ := h7 r hrep
          exact ⟨hp, fun hne => by have := hcount hne; simp only; omega⟩
  · exact .inr ⟨c, rfl, rfl, id⟩

theorem map_id_flatMap_afterWalk (m : BitVec 32) (queue : List Cue) :
    ((queue.flatMap (Cue.afterWalk m)).map Cue.id).Sublist (queue.map Cue.id) := by
  induction queue with
  | nil => simp
  | cons c cs ih =>
    obtain e | ⟨d, e, hid, -⟩ := afterWalk_cases m c
    · simpa [e] using ih.cons c.id
    · simpa [e, hid] using ih

@[simp] theorem Cue.markEdge_id (c : Cue) : c.markEdge.id = c.id := by
  unfold Cue.markEdge; split <;> rfl

theorem CueOk.markEdge {c : Cue} (h : CueOk c) : CueOk c.markEdge := by
  unfold Cue.markEdge; split <;> exact h

/-- R113: the law of the queue alone. -/
def CueQueueOk (queue : List Cue) : Prop :=
  queue.length ≤ 32 ∧ (queue.map Cue.id).Nodup ∧ ∀ c ∈ queue, CueOk c

/-- R113–R127: every change of the cue queue keeps its law. -/
theorem CueQueueOk.change {queue queue' : List Cue} (hq : CueQueueOk queue) (h : QueueChange queue queue') :
    CueQueueOk queue' := by
  obtain ⟨hlen, hnodup, hok⟩ := hq
  cases h with
  | append c h hid hc =>
    refine ⟨by simp; omega, ?_, fun d hd => ?_⟩
    · rw [List.map_append, List.map_singleton, List.nodup_append]
      exact ⟨hnodup, by simp, fun a ha b hb => by
        obtain ⟨d, hd, rfl⟩ := List.mem_map.mp ha
        obtain rfl := List.mem_singleton.mp hb
        exact hid d hd⟩
    · rcases List.mem_append.mp hd with hd | hd
      · exact hok d hd
      · obtain rfl := List.mem_singleton.mp hd; exact hc
  | sublist q h => exact ⟨h.length_le.trans hlen, hnodup.sublist (h.map Cue.id), fun c hc => hok c (h.subset hc)⟩
  | markEdges =>
    refine ⟨by simpa using hlen, by simpa [Function.comp_def] using hnodup, fun d hd => ?_⟩
    obtain ⟨c, hc, rfl⟩ := List.mem_map.mp hd
    exact (hok c hc).markEdge
  | settle m =>
    have hsub := map_id_flatMap_afterWalk m queue
    refine ⟨by simpa using hsub.length_le.trans (by simpa using hlen), hnodup.sublist hsub, fun d hd => ?_⟩
    obtain ⟨c, hc, hd⟩ := List.mem_flatMap.mp hd
    obtain e | ⟨d', e, -, hkeeps⟩ := afterWalk_cases m c
    · simp [e] at hd
    · simp only [e, List.mem_singleton] at hd; subst hd; exact hkeeps (hok c hc)

end Sys2Proof.Machine
end

section
/-! The laws of the fixture table, the scene store and the levels of the lights, kept by every change of their blocks
(R130–R152). -/

namespace Sys2Proof.Machine

/-! ## The fixture table (R130–R134) -/

theorem anyConflict_eq_false_iff (t : Vector Fixture 96) :
    anyConflict t = false ↔ ∀ i j : Fin 96, i < j → footprintsMeet t[i] t[j] = false := by
  simp [anyConflict]

/-- R131: what a fixture's footprint and ranges rest on; its levels and its follow-on flag do not matter. -/
def SamePatch (f g : Fixture) : Prop :=
  f.present = g.present ∧ f.line = g.line ∧ f.base = g.base ∧ f.kind = g.kind ∧ f.region = g.region ∧ f.gain = g.gain
    ∧ f.rate = g.rate

theorem SamePatch.footprintsMeet {f f' g g' : Fixture} (hf : SamePatch f f') (hg : SamePatch g g') :
    Machine.footprintsMeet f g = Machine.footprintsMeet f' g' := by
  obtain ⟨hp, hl, hb, hk, -⟩ := hf
  obtain ⟨hp', hl', hb', hk', -⟩ := hg
  have he : f.slotEnd = f'.slotEnd := by simp only [Fixture.slotEnd, hb, hk]
  have he' : g.slotEnd = g'.slotEnd := by simp only [Fixture.slotEnd, hb', hk']
  simp only [Machine.footprintsMeet, hp, hl, hb, he, hp', hl', hb', he']

theorem SamePatch.fixtureOk {f g : Fixture} (h : SamePatch f g) (hg : FixtureOk g) : FixtureOk f := by
  obtain ⟨-, hl, hb, hk, hr, hgain, hrate⟩ := h
  simpa only [FixtureOk, hl, hb, hk, hr, hgain, hrate] using hg

theorem footprintsMeet_absent {f g : Fixture} (h : f.present = false ∨ g.present = false) : footprintsMeet f g = false := by
  obtain h | h := h <;> simp [footprintsMeet, h]

/-- R131: a table whose fixtures keep their patch, the absent ones untouched, keeps the law. -/
theorem FixtureLaw.of_samePatch {s : State} {fs : Vector Fixture 96} {scs : Vector Scene 64} {f : FollowBlock}
    (hs : FixtureLaw s) (hpatch : ∀ x : Fin 96, SamePatch fs[x] s.lights.fixtures[x])
    (habsent : ∀ x : Fin 96, s.lights.fixtures[x] = Fixture.powerOn → s.follow.values[x] = Rgb.all 0 →
      fs[x] = Fixture.powerOn ∧ f.values[x] = Rgb.all 0) :
    FixtureLaw { s with lights := { s.lights with fixtures := fs, scenes := scs }, follow := f } := by
  obtain ⟨hconflict, hfix⟩ := hs
  refine ⟨?_, fun x => ⟨fun hp => ?_, fun hp => ?_⟩⟩
  · rw [anyConflict_eq_false_iff] at hconflict ⊢
    intro i j hij
    rw [(hpatch i).footprintsMeet (hpatch j)]
    exact hconflict i j hij
  · exact (hpatch x).fixtureOk ((hfix x).1 ((hpatch x).1 ▸ hp))
  · obtain ⟨he, hv⟩ := (hfix x).2 ((hpatch x).1 ▸ hp)
    exact habsent x he hv

/-- R133: a record in the table after a write. -/
theorem writtenTable_getElem (t : Vector Fixture 96) {records : List (Fin 96 × Fixture)}
    (hn : (records.map Prod.fst).Nodup) (x : Fin 96) :
    (∀ y ∈ records, y.1 = x → (writtenTable t records)[x] = t[x].rewrite y.2)
      ∧ ((∀ y ∈ records, y.1 ≠ x) → (writtenTable t records)[x] = t[x]) := by
  induction records generalizing t with
  | nil => simp [writtenTable]
  | cons z zs ih =>
    simp only [List.map_cons, List.nodup_cons] at hn
    obtain ⟨hz, hzs⟩ := hn
    obtain ⟨hin, hout⟩ := ih (modifyAt t z.1 fun old => old.rewrite z.2) hzs
    have hcons : writtenTable t (z :: zs) = writtenTable (modifyAt t z.1 fun old => old.rewrite z.2) zs := rfl
    rw [hcons]
    refine ⟨fun y hy hx => ?_, fun hne => ?_⟩
    · rcases List.mem_cons.mp hy with rfl | hy
      · rw [hout fun y' hy' he => hz (List.mem_map.mpr ⟨y', hy', he.trans hx.symm⟩)]
        simp [← hx]
      · rw [hin y hy hx]
        have hzx : ¬ x.val = z.1.val := fun he => hz (List.mem_map.mpr ⟨y, hy, hx.trans (Fin.ext he)⟩)
        simp [hzx]
    · rw [hout fun y hy => hne y (List.mem_cons_of_mem _ hy)]
      have hzx : ¬ x.val = z.1.val := fun he => hne z List.mem_cons_self (Fin.ext he.symm)
      simp [hzx]

/-- R149: a follow value after a write. -/
theorem writtenValues_getElem (t : Vector Fixture 96) (values : Vector Rgb 96) (records : List (Fin 96 × Fixture))
    (x : Fin 96) :
    (writtenValues t values records)[x] =
      if (∃ y ∈ records, y.1 = x) ∧ t[x].present = false then Rgb.all 0 else values[x] := by
  induction records generalizing values with
  | nil => simp [writtenValues]
  | cons z zs ih =>
    have hcons : writtenValues t values (z :: zs)
        = writtenValues t (if t[z.1].present then values else values.set z.1 (Rgb.all 0)) zs := rfl
    rw [hcons, ih]
    by_cases hz : z.1 = x
    · subst hz
      cases hp : t[z.1].present <;> simp
    · have hne : z.1.val ≠ x.val := fun h => hz (Fin.ext h)
      have hmem : (∃ y ∈ z :: zs, y.1 = x) ↔ ∃ y ∈ zs, y.1 = x := by simp [hz]
      simp only [hmem]
      cases hp : t[z.1].present <;> simp [hne]

@[simp] theorem Fixture.rewrite_present (old new : Fixture) : (old.rewrite new).present = new.present := by
  unfold Fixture.rewrite; split <;> rfl

theorem Fixture.rewrite_samePatch (old new : Fixture) : SamePatch (old.rewrite new) new := by
  unfold Fixture.rewrite; split <;> exact ⟨rfl, rfl, rfl, rfl, rfl, rfl, rfl⟩

/-- R140: what a LIGHT_FADE entry makes of one fixture. -/
theorem applyEntry_getElem (a : FadeAction) (t : Vector Fixture 96) (e : SceneEntry) (x : Fin 96) :
    (applyEntry a t e)[x] =
      if e.fixture = x.val ∧ t[x].reached a.mask = true then t[x].fadeTo a.frames e else t[x] := by
  unfold applyEntry
  split
  · rw [Fin.getElem_fin, modifyAt_getElem]
    by_cases hx : x.val = e.fixture
    · simp [hx]
    · have hx' : ¬ e.fixture = x.val := fun h => hx h.symm
      simp [hx, hx']
  · next h => rw [if_neg fun hx => h (by have := x.isLt; omega)]

/-- What every entry applied to a fixture keeps, a run of entries keeps. -/
theorem foldl_applyEntry_keeps {P : Fixture → Prop} {a : FadeAction} {entries : List SceneEntry}
    (he : ∀ e ∈ entries, ∀ f, P f → f.reached a.mask = true → P (f.fadeTo a.frames e)) (t : Vector Fixture 96)
    (x : Fin 96) (h : P t[x]) : P (entries.foldl (applyEntry a) t)[x] := by
  induction entries generalizing t with
  | nil => exact h
  | cons e es ih =>
    refine ih (fun e' h' => he e' (List.mem_cons_of_mem _ h')) _ ?_
    rw [applyEntry_getElem]
    split
    · next hx => exact he e List.mem_cons_self _ h hx.2
    · exact h

theorem not_reached_powerOn (mask : BitVec 16) : Fixture.powerOn.reached mask = false := rfl

/-- R130–R152: every change of the lights keeps the law of the fixture table. -/
theorem FixtureLaw.change {s : State} {fs : Vector Fixture 96} {scs : Vector Scene 64} {f : FollowBlock}
    (hs : FixtureLaw s) (h : LightChange s fs scs f) :
    FixtureLaw { s with lights := { s.lights with fixtures := fs, scenes := scs }, follow := f } := by
  cases h with
  | write records hp hn hc =>
    refine ⟨hc, fun x => ?_⟩
    obtain ⟨hin, hout⟩ := writtenTable_getElem s.lights.fixtures hn x
    show ((writtenTable s.lights.fixtures records)[x].present = true → FixtureOk (writtenTable s.lights.fixtures records)[x])
      ∧ ((writtenTable s.lights.fixtures records)[x].present = false →
        (writtenTable s.lights.fixtures records)[x] = Fixture.powerOn
          ∧ (writtenValues s.lights.fixtures s.follow.values records)[x] = Rgb.all 0)
    by_cases hx : ∃ y ∈ records, y.1 = x
    · obtain ⟨y, hy, hyx⟩ := hx
      rw [hin y hy hyx, Fixture.rewrite_present, (hp y hy).2.1]
      exact ⟨fun _ => (Fixture.rewrite_samePatch _ _).fixtureOk (hp y hy).1, nofun⟩
    · rw [hout fun y hy he => hx ⟨y, hy, he⟩, writtenValues_getElem, if_neg fun h => hx h.1]
      exact hs.2 x
  | delete x =>
    obtain ⟨hconflict, hfix⟩ := hs
    rw [anyConflict_eq_false_iff] at hconflict
    refine ⟨(anyConflict_eq_false_iff _).mpr fun i j hij => ?_, fun y => ?_⟩
    · simp only [Fin.getElem_fin, modifyAt_getElem]
      split
      · exact footprintsMeet_absent (.inl rfl)
      · split
        · exact footprintsMeet_absent (.inr rfl)
        · exact hconflict i j hij
    · simp only [Fin.getElem_fin, modifyAt_getElem, Vector.getElem_set]
      by_cases hxy : y.val = x.val
      · simp [hxy, Fixture.powerOn]
      · have hyx : ¬ x.val = y.val := fun h => hxy h.symm
        simpa [hxy, hyx] using hfix y
  | fade a entries h =>
    refine hs.of_samePatch (fun x => ?_) fun x hx hv => ⟨?_, hv⟩
    · exact foldl_applyEntry_keeps (P := fun g => SamePatch g s.lights.fixtures[x]) (fun _ _ _ h _ => h) _ x
        ⟨rfl, rfl, rfl, rfl, rfl, rfl, rfl⟩
    · refine foldl_applyEntry_keeps (P := (· = Fixture.powerOn)) (fun e _ g hg hr => ?_) _ x hx
      rw [hg, not_reached_powerOn] at hr
      exact absurd hr (by simp)
  | stepFades =>
    exact hs.of_samePatch (fun x => by simp [SamePatch, Fixture.mapAttrs])
      fun x hx hv => ⟨by simp only [Fin.getElem_fin, mapAll_getElem] at hx ⊢; rw [hx]; rfl, hv⟩
  | freezeFades =>
    exact hs.of_samePatch (fun x => by simp [SamePatch, Fixture.mapAttrs])
      fun x hx hv => ⟨by simp only [Fin.getElem_fin, mapAll_getElem] at hx ⊢; rw [hx]; rfl, hv⟩
  | stepFollow =>
    refine hs.of_samePatch (fun x => ⟨rfl, rfl, rfl, rfl, rfl, rfl, rfl⟩) fun x hx hv => ⟨hx, ?_⟩
    simp only [Machine.stepFollow, Fin.getElem_fin, Vector.getElem_ofFn]
    rw [stepFollowValue, ← Fin.getElem_fin, hx]
    exact hv
  | followOn a =>
    refine hs.of_samePatch (fun x => ?_) fun x hx hv => ?_
    · simp only [followOnAction, Fin.getElem_fin, mapAll_getElem]
      split <;> exact ⟨rfl, rfl, rfl, rfl, rfl, rfl, rfl⟩
    · simp only [Fin.getElem_fin] at hx hv
      have hoff : turnsOn a Fixture.powerOn = false := rfl
      simp [followOnAction, hx, hv, hoff]
  | followOff a =>
    refine hs.of_samePatch (fun x => ?_) fun x hx hv => ⟨?_, hv⟩
    · simp only [followOffAction, Fin.getElem_fin, Vector.getElem_ofFn]
      split <;> exact ⟨rfl, rfl, rfl, rfl, rfl, rfl, rfl⟩
    · simp only [Fin.getElem_fin] at hx
      have hoff : turnsOff a Fixture.powerOn = false := rfl
      simp [followOffAction, hx, hoff]
  | scene x sc h => exact hs
  | output f h =>
    refine hs.of_samePatch (fun x => ⟨rfl, rfl, rfl, rfl, rfl, rfl, rfl⟩) fun x hx hv => ⟨hx, ?_⟩
    rw [h]
    exact hv
  | clear =>
    refine ⟨(anyConflict_eq_false_iff _).mpr fun i j _ => footprintsMeet_absent (.inl (by simp [Fixture.powerOn])), fun x => ?_⟩
    simp [Fixture.powerOn]

/-! ## The scene store (R136–R139) -/

theorem sum_counted_set (xs : List Scene) (n : Nat) (sc : Scene) (h : n < xs.length) :
    ((xs.set n sc).map Scene.counted).sum + xs[n].counted = (xs.map Scene.counted).sum + sc.counted := by
  induction xs generalizing n with
  | nil => simp at h
  | cons y ys ih =>
    cases n with
    | zero => simp; omega
    | succ n =>
      have := ih n (by simpa using h)
      simp only [List.set_cons_succ, List.map_cons, List.sum_cons, List.getElem_cons_succ]
      omega

/-- R136: the pool after one scene has changed. -/
theorem poolUsed_set (scenes : Vector Scene 64) (x : Fin 64) (sc : Scene) :
    poolUsed (scenes.set x sc) + scenes[x].counted = poolUsed scenes + sc.counted := by
  have := sum_counted_set scenes.toList x.val sc (by simp)
  simpa [poolUsed, Vector.toList_set] using this

theorem Scene.append_counted (entries : List SceneEntry) (sc : Scene) : (sc.append entries).counted = sc.counted := by
  unfold Scene.append
  split
  · split
    · next h => exact h
    · rfl
  · rfl
  · rfl

/-- R136–R139: every change of a scene keeps its law and the pool's. -/
theorem SceneOk.change {room : Nat} {sc sc' : Scene} (hsc : SceneOk sc) (h : SceneChange room sc sc') :
    SceneOk sc' ∧ (sc'.counted ≤ room ∨ sc'.counted ≤ sc.counted) := by
  cases h with
  | begin n h0 h hr => exact ⟨⟨by omega, h, by simp; omega, by simp, by simp⟩, .inl hr⟩
  | append entries hb h0 hl hr he =>
    refine ⟨?_, .inr (Scene.append_counted entries sc).le⟩
    cases sc with
    | empty => simp [Scene.isBuilding] at hb
    | ready held => simp [Scene.isBuilding] at hb
    | building expected held =>
      obtain ⟨h1, h512, hlt, -, hheld⟩ := hsc
      simp only [Scene.expected, Scene.entries] at hl
      have hnodup : ((held ++ entries).map SceneEntry.fixture).Nodup := by
        simpa [entriesRepeat, Scene.entries] using hr
      have hok : ∀ e ∈ held ++ entries, EntryOk e := fun e hm =>
        (List.mem_append.mp hm).elim (hheld e) (he e)
      unfold Scene.append
      simp only
      split
      · next hfull => exact ⟨by omega, by omega, hnodup, hok⟩
      · next hfull =>
        rw [List.length_append] at hfull
        exact ⟨h1, h512, by rw [List.length_append]; omega, hnodup, hok⟩
  | delete => exact ⟨trivial, .inr (Nat.zero_le _)⟩

/-! ## The levels of the lights (R135, R140, R141, R149–R152) -/

/-- R135: the four attributes of a fixture. -/
def LevelsOk (f : Fixture) : Prop := AttrOk f.i ∧ AttrOk f.r ∧ AttrOk f.g ∧ AttrOk f.b

theorem AttrOk.zero : AttrOk Attr.zero := ⟨by simp [Attr.zero], nofun⟩

theorem LevelsOk.mapAttrs {g : Attr → Attr} (hg : ∀ a, AttrOk a → AttrOk (g a)) {f : Fixture} (h : LevelsOk f) :
    LevelsOk (f.mapAttrs g) :=
  ⟨hg _ h.1, hg _ h.2.1, hg _ h.2.2.1, hg _ h.2.2.2⟩

theorem AttrOk.step {a : Attr} (h : AttrOk a) : AttrOk a.step := by
  obtain ⟨hc, hf⟩ := h
  unfold Attr.step
  split
  · exact ⟨hc, hf⟩
  · next f hfade =>
    obtain ⟨hs, ht, he⟩ := hf f hfade
    split
    · exact ⟨ht, nofun⟩
    · next hmore =>
      refine ⟨interpolate_le hs ht (by omega), ?_⟩
      rintro _ ⟨⟩
      exact ⟨hs, ht, by simp only; omega⟩

theorem AttrOk.freeze {a : Attr} (h : AttrOk a) : AttrOk a.freeze := ⟨h.1, nofun⟩

theorem AttrOk.fadeTo {a : Attr} (h : AttrOk a) (frames : Nat) {v : Option Nat} (hv : ∀ n, v = some n → n ≤ 65535) :
    AttrOk (a.fadeTo frames v) := by
  unfold Attr.fadeTo
  split
  · exact h
  · next n =>
    split
    · exact ⟨hv n rfl, nofun⟩
    · refine ⟨h.1, ?_⟩
      rintro _ ⟨⟩
      exact ⟨h.1, hv n rfl, by simp only; omega⟩

theorem AttrOk.handBack {a : Attr} (h : AttrOk a) {v : Nat} (hv : v ≤ 65535) : AttrOk (a.handBack v) := by
  refine ⟨hv, fun f hf => ?_⟩
  simp only [Attr.handBack, Option.map_eq_some_iff] at hf
  obtain ⟨g, hg, rfl⟩ := hf
  obtain ⟨-, ht, he⟩ := h.2 g hg
  exact ⟨hv, ht, by simp only; omega⟩

theorem LevelsOk.fadeTo {f : Fixture} (h : LevelsOk f) (frames : Nat) {e : SceneEntry} (he : EntryOk e) :
    LevelsOk (f.fadeTo frames e) := by
  obtain ⟨-, hi, hr, hg, hb⟩ := he
  exact ⟨h.1.fadeTo frames hi, h.2.1.fadeTo frames hr, h.2.2.1.fadeTo frames hg, h.2.2.2.fadeTo frames hb⟩

theorem LevelsOk.handBack {f : Fixture} (h : LevelsOk f) {v : Rgb} (hv : RgbOk v) : LevelsOk (f.handBack v) :=
  ⟨h.1, h.2.1.handBack hv.1, h.2.2.1.handBack hv.2.1, h.2.2.2.handBack hv.2.2⟩

theorem LevelsOk.rewrite {old new : Fixture} (ho : LevelsOk old) (hn : LevelsOk new) : LevelsOk (old.rewrite new) := by
  unfold Fixture.rewrite; split
  · exact ho
  · exact hn

theorem RgbOk.zero : RgbOk (Rgb.all 0) := by simp [RgbOk, Rgb.all]

/-- R150: a follow value stays within the levels. -/
theorem followNext_le {gain rate value average : Nat} (hr : rate ≤ 256) (hv : value ≤ 65535) :
    followNext gain rate value average ≤ 65535 := by
  have ht : gainedTarget average gain ≤ 65535 := Nat.min_le_left _ _
  unfold followNext followStep
  generalize gainedTarget average gain = target at ht ⊢
  have hmid := interpolate_le (j := rate) (n := 256) hv ht hr
  unfold interpolate at hmid
  simp only
  split
  · split <;> omega
  · simpa using hmid

theorem RgbOk.stepFollow {published : Vector (Option Rgb) 16} {f : Fixture} {v : Rgb}
    (hf : f.present = true → f.rate ≤ 256) (hv : RgbOk v) : RgbOk (stepFollowValue published f v) := by
  unfold stepFollowValue
  split
  · next hp =>
    have hrate := hf (Bool.and_eq_true_iff.mp hp).1
    split
    · exact ⟨followNext_le hrate hv.1, followNext_le hrate hv.2.1, followNext_le hrate hv.2.2⟩
    · exact hv
  · exact hv

/-- R135–R152: every change of the lights keeps the law of the scene store and of the levels, where the fixtures have
theirs. -/
theorem LightLaw.change {s : State} {fs : Vector Fixture 96} {scs : Vector Scene 64} {f : FollowBlock}
    (hfix : FixtureLaw s) (hs : LightLaw s) (h : LightChange s fs scs f) :
    LightLaw { s with lights := { s.lights with fixtures := fs, scenes := scs }, follow := f } := by
  obtain ⟨hpool, hscenes, hlevels, hvalues⟩ := hs
  cases h with
  | write records hp hn hc =>
    refine ⟨hpool, hscenes, fun x => ?_, fun x => ?_⟩
    · obtain ⟨hin, hout⟩ := writtenTable_getElem s.lights.fixtures hn x
      show LevelsOk (writtenTable s.lights.fixtures records)[x]
      by_cases hx : ∃ y ∈ records, y.1 = x
      · obtain ⟨y, hy, hyx⟩ := hx
        obtain ⟨-, -, hi, hr, hg, hb⟩ := hp y hy
        rw [hin y hy hyx]
        refine LevelsOk.rewrite (hlevels x) ?_
        rw [LevelsOk, hi, hr, hg, hb]
        exact ⟨AttrOk.zero, AttrOk.zero, AttrOk.zero, AttrOk.zero⟩
      · rw [hout fun y hy he => hx ⟨y, hy, he⟩]; exact hlevels x
    · show RgbOk (writtenValues s.lights.fixtures s.follow.values records)[x]
      rw [writtenValues_getElem]
      split
      · exact RgbOk.zero
      · exact hvalues x
  | delete x =>
    refine ⟨hpool, hscenes, fun y => ?_, fun y => ?_⟩
    · show LevelsOk (modifyAt s.lights.fixtures x fun _ => Fixture.powerOn)[y]
      simp only [Fin.getElem_fin, modifyAt_getElem]
      split
      · exact ⟨AttrOk.zero, AttrOk.zero, AttrOk.zero, AttrOk.zero⟩
      · exact hlevels y
    simp only [Fin.getElem_fin, Vector.getElem_set]
    split
    · exact RgbOk.zero
    · exact hvalues y
  | fade a entries h =>
    refine ⟨hpool, hscenes, fun x => ?_, hvalues⟩
    have hscene : ∃ y : Fin 64, s.lights.scenes[y] = .ready entries := by
      obtain ⟨hlt, he⟩ := Vector.getElem?_eq_some_iff.mp h
      exact ⟨⟨a.scene, hlt⟩, he⟩
    obtain ⟨y, hy⟩ := hscene
    have hready := hscenes y
    rw [hy] at hready
    obtain ⟨-, -, -, hentries⟩ := hready
    exact foldl_applyEntry_keeps (P := LevelsOk) (fun e he g hg _ => hg.fadeTo a.frames (hentries e he)) _ x (hlevels x)
  | stepFades =>
    refine ⟨hpool, hscenes, fun x => ?_, hvalues⟩
    simp only [Fin.getElem_fin, mapAll_getElem]
    exact LevelsOk.mapAttrs (fun _ => AttrOk.step) (hlevels x)
  | freezeFades =>
    refine ⟨hpool, hscenes, fun x => ?_, hvalues⟩
    simp only [Fin.getElem_fin, mapAll_getElem]
    exact LevelsOk.mapAttrs (fun _ => AttrOk.freeze) (hlevels x)
  | stepFollow =>
    refine ⟨hpool, hscenes, hlevels, fun x => ?_⟩
    simp only [Machine.stepFollow, Fin.getElem_fin, Vector.getElem_ofFn]
    exact RgbOk.stepFollow (fun hp => ((hfix.2 x).1 hp).2.2.2.2.2.1) (hvalues x)
  | followOn a =>
    refine ⟨hpool, hscenes, fun x => ?_, fun x => ?_⟩
    · simp only [followOnAction, Fin.getElem_fin, mapAll_getElem]
      split <;> exact hlevels x
    · simp only [followOnAction, Fin.getElem_fin, Vector.getElem_ofFn]
      split
      · obtain ⟨-, hr, hg, hb⟩ := hlevels x
        exact ⟨hr.1, hg.1, hb.1⟩
      · exact hvalues x
  | followOff a =>
    refine ⟨hpool, hscenes, fun x => ?_, hvalues⟩
    simp only [followOffAction, Fin.getElem_fin, Vector.getElem_ofFn]
    split
    · exact LevelsOk.handBack (hlevels x) (hvalues x)
    · exact hlevels x
  | scene x sc h =>
    obtain ⟨hok, hroom⟩ := (hscenes x).change h
    refine ⟨?_, fun y => ?_, hlevels, hvalues⟩
    · have hset := poolUsed_set s.lights.scenes x sc
      simp only [poolFree, Config.poolSize] at hroom
      show poolUsed (s.lights.scenes.set x sc) ≤ 2048
      omega
    · simp only [Fin.getElem_fin, Vector.getElem_set]
      split
      · exact hok
      · exact hscenes y
  | output f h => exact ⟨hpool, hscenes, hlevels, fun x => by rw [h]; exact hvalues x⟩
  | clear =>
    refine ⟨?_, fun x => ?_, fun x => ?_, fun x => ?_⟩
    · show poolUsed (Vector.replicate 64 .empty) ≤ 2048
      decide
    · simp [SceneOk]
    · simp only [Fin.getElem_fin, Vector.getElem_replicate]
      exact ⟨AttrOk.zero, AttrOk.zero, AttrOk.zero, AttrOk.zero⟩
    · simp only [Fin.getElem_fin, Vector.getElem_replicate]
      exact RgbOk.zero

end Sys2Proof.Machine
end

section
/-! The laws of the queues, the event unit and the counters, kept by every change between commands, and by the rows of
the return lane (R164–R179). -/

namespace Sys2Proof.Machine

/-! ## The queues (R164–R169) -/

/-- R164, R165, R168, R169: the law of the queues with k slots reserved, but for the executor's look at its queue. -/
def QueueCore (k : Nat) (s : State) : Prop :=
  s.intake.queue.length ≤ 8 ∧ s.ret.own.length + k ≤ 8 ∧ s.ret.reserved = k ∧ s.ret.pass.length ≤ 16
    ∧ (s.ret.sending = none → s.ret.own = [] ∧ s.ret.pass = [])
    ∧ (s.intake.executor = .waiting → s.intake.headDirect = true)

/-- R165: the executor is WAITING when the oldest command is direct and no slot is free. -/
def Looked (s : State) : Prop :=
  s.intake.headDirect = true → s.ret.free = 0 → s.intake.executor = .waiting

theorem queueLaw_iff (s : State) : QueueLaw s ↔ QueueCore 0 s ∧ Looked s := by
  constructor
  · rintro ⟨hq, hown, hres, hpass, hidle, hwait, hlook⟩
    exact ⟨⟨hq, by omega, hres, hpass, hidle, hwait⟩, hlook⟩
  · rintro ⟨⟨hq, hown, hres, hpass, hidle, hwait⟩, hlook⟩
    exact ⟨hq, by omega, hres, hpass, hidle, hwait, hlook⟩

/-- R168: a slot is free when the packets and the reserved slots leave one. -/
theorem free_ne_zero_iff (m : Merger) : m.free ≠ 0 ↔ m.own.length + m.reserved < 8 := by
  unfold Merger.free Config.ownSize; omega

/-- R165: all that the executor's look can change. -/
theorem lookIntake_cases (s : State) :
    (lookIntake s = s ∧ ¬ (s.intake.headDirect = true ∧ s.ret.free = 0))
      ∨ (s.intake.headDirect = true ∧ s.ret.free = 0 ∧ lookIntake s = s.setExecutor .waiting) := by
  unfold lookIntake
  split
  · next h => simp only [Bool.and_eq_true, beq_iff_eq] at h; exact .inr ⟨h.1, h.2, rfl⟩
  · next h => simp only [Bool.and_eq_true, beq_iff_eq] at h; exact .inl ⟨rfl, h⟩

theorem Looked.lookIntake (s : State) : Looked (lookIntake s) := by
  intro hdirect hfree
  exact lookIntake_waiting s (by simpa using hdirect) (by simpa using hfree)

theorem lookIntake_waits {s : State} (h : s.intake.executor = .waiting → s.intake.headDirect = true) :
    (lookIntake s).intake.executor = .waiting → (lookIntake s).intake.headDirect = true := by
  obtain ⟨e, -⟩ | ⟨hdirect, -, e⟩ := lookIntake_cases s <;> rw [e]
  · exact h
  · exact fun _ => hdirect

theorem QueueCore.lookIntake {k : Nat} {s : State} (h : QueueCore k s) : QueueCore k (lookIntake s) := by
  obtain ⟨hq, hown, hres, hpass, hidle, hwait⟩ := h
  exact ⟨by simpa using hq, by simpa using hown, by simpa using hres, by simpa using hpass, by simpa using hidle,
    lookIntake_waits hwait⟩

theorem Looked.placeOwn (p : ReturnPacket) (s : State) : Looked (placeOwn p s) := Looked.lookIntake _

/-- R168: a packet placed where a slot is left for it. -/
theorem QueueCore.placeOwn {k : Nat} {s : State} (p : ReturnPacket) (h : QueueCore k s)
    (hroom : s.ret.own.length + k < 8) : QueueCore k (placeOwn p s) := by
  obtain ⟨hq, -, hres, hpass, -, hwait⟩ := h
  obtain ⟨hown', hpass', hres', hidle'⟩ := placeOwn_merger p s
  exact ⟨by simpa using hq, by omega, hres'.trans hres, by omega, hidle',
    lookIntake_waits (s := startSend _) (by simpa using hwait)⟩

theorem Looked.tryNotice {s : State} (h : Looked s) : Looked (tryNotice s) := by
  unfold Machine.tryNotice
  split
  · exact Looked.placeOwn _ _
  · exact h

theorem QueueCore.tryNotice {k : Nat} {s : State} (h : QueueCore k s) : QueueCore k (tryNotice s) := by
  unfold Machine.tryNotice
  split
  · next hdue =>
    have hfree := (free_ne_zero_iff s.ret).mp (by simpa using (Bool.and_eq_true_iff.mp hdue).2)
    obtain ⟨-, -, hres, -⟩ := id h
    exact QueueCore.placeOwn (s := s.setEvents _) _ h (by simp only [State.setEvents_ret]; omega)
  · exact h

/-- A property of the queues that a notice keeps, every raising and due test keeps. -/
theorem NoticeChange.keeps {P : Intake → Merger → Prop}
    (htry : ∀ s : State, P s.intake s.ret → P (Machine.tryNotice s).intake (Machine.tryNotice s).ret)
    (haddr : ∀ (i : Intake) m a b c d, P i m → P { i with slot1 := a, slot2 := b, slot3 := c, mask := d } m)
    (hempty : ∀ (i : Intake) m, P i m → P { i with queue := [], executor := .idle } m) {s u : State}
    (h : NoticeChange s u) (hs : P s.intake s.ret) : P u.intake u.ret := by
  have hdue : ∀ t : State, P t.intake t.ret → P (Machine.dueTest t).intake (Machine.dueTest t).ret := fun t ht => htry (t.setEvents _) ht
  cases h with
  | raise e =>
    unfold Machine.raise
    split
    · exact hs
    · split
      · exact hdue (s.setEvents _) hs
      · exact hs
  | dueTest => exact hdue s hs
  | countFrame => exact hdue (s.setEvents _) hs
  | tryNotice => exact htry s hs
  | thresholds e c f hc hf => exact hdue _ hs
  | clearFlags f => exact hs
  | reset => exact hs
  | addresses a b c d => exact haddr _ _ _ _ _ _ hs
  | emptyIntake => exact hempty _ _ hs

/-- R164–R169: between commands every change keeps the law of the queues. -/
theorem Change.queueCore {may : May} {k : Nat} {s t : State} (h : Change may s t)
    (hs : QueueCore k s) : QueueCore k t := by
  cases h with
  | notice h =>
    have hkeeps := NoticeChange.keeps
      (P := fun i m => i.queue.length ≤ 8 ∧ m.own.length + k ≤ 8 ∧ m.reserved = k ∧ m.pass.length ≤ 16
        ∧ (m.sending = none → m.own = [] ∧ m.pass = []) ∧ (i.executor = .waiting → i.headDirect = true))
      (fun s hs => QueueCore.tryNotice (k := k) hs) (fun i m a b c d hs => hs)
      (fun i m ⟨_, hown, hres, hpass, hidle, _⟩ => ⟨by simp, hown, hres, hpass, hidle, nofun⟩) h hs
    exact hkeeps
  | clear set h => cases set <;> exact hs
  | clearAll h => exact hs
  | _ => exact hs

theorem Change.looked {may : May} {s t : State} (h : Change may s t) (hs : Looked s) : Looked t := by
  cases h with
  | notice h =>
    have hkeeps := NoticeChange.keeps (P := fun i m => i.headDirect = true → m.free = 0 → i.executor = .waiting)
      (fun s hs => Looked.tryNotice hs) (fun i m a b c d hs => hs) (fun i m hs => nofun) h hs
    exact hkeeps
  | clear set h => cases set <;> exact hs
  | clearAll h => exact hs
  | _ => exact hs

theorem Changes.queueCore {may : May} {k : Nat} {s t : State} (h : Changes may s t)
    (hs : QueueCore k s) : QueueCore k t := by
  induction h with
  | refl => exact hs
  | tail _ h ih => exact h.queueCore ih

theorem Changes.looked {may : May} {s t : State} (h : Changes may s t) (hs : Looked s) : Looked t := by
  induction h with
  | refl => exact hs
  | tail _ h ih => exact h.looked ih

/-- R165: a command taken reserves a slot where it is direct, and answering it gives the slot back. -/
theorem QueueCore.beginCommand {s : State} {e : Entry} {rest : List Entry} (hs : QueueCore 0 s) (ht : Takes s e rest) :
    QueueCore (if e.kind = .direct then 1 else 0) (beginCommand e rest s) := by
  obtain ⟨hq, hown, hres, hpass, hidle, -⟩ := hs
  obtain ⟨hqueue, hfree⟩ := ht
  rw [hqueue, List.length_cons] at hq
  refine ⟨by simp only [beginCommand_queue]; omega, ?_, by simp [Machine.beginCommand, hres], hpass, hidle, nofun⟩
  show s.ret.own.length + _ ≤ 8
  split
  · next hd => have := (free_ne_zero_iff _).mp (hfree hd); omega
  · omega

/-- R165, R166: after the answer the law of the queues holds again. -/
theorem QueueCore.answer {e : Entry} {t : Taken} (h : QueueCore (if e.kind = .direct then 1 else 0) t.state) :
    QueueLaw (answer e t) := by
  rw [queueLaw_iff]
  unfold Machine.answer
  split
  · next hd =>
    rw [if_pos hd] at h
    obtain ⟨hq, hown, hres, hpass, hidle, hwait⟩ := h
    refine ⟨QueueCore.placeOwn _ ⟨hq, by simp only; omega, by simp only [hres], hpass, hidle, hwait⟩ ?_, Looked.placeOwn _ _⟩
    simp only; omega
  · next hd => rw [if_neg hd] at h; exact ⟨h.lookIntake, Looked.lookIntake _⟩

/-! ## The event unit (R173–R176) -/

/-- R175: the law of the event unit but for the due mark. -/
def EventBase (u : EventUnit) : Prop :=
  1 ≤ u.countThreshold ∧ u.countThreshold ≤ 16 ∧ 1 ≤ u.frameThreshold ∧ u.frameThreshold ≤ 255 ∧ u.pending ≤ 255
    ∧ u.frames ≤ 255 ∧ (u.groups = 0 ↔ u.pending = 0)

/-- R175: the law of the event unit. -/
def EventOk (u : EventUnit) : Prop := EventBase u ∧ (u.reached = true → u.due = true)

theorem eventLaw_iff (s : State) : EventLaw s ↔ EventOk s.events := by
  simp only [EventLaw, EventOk, EventBase]; tauto

theorem EventUnit.reached_iff (u : EventUnit) :
    u.reached = true ↔ u.countThreshold ≤ u.pending ∨ u.frameThreshold ≤ u.frames := by
  simp [EventUnit.reached]

theorem EventBase.testDue {u : EventUnit} (h : EventBase u) : EventOk u.testDue :=
  ⟨h, fun hr => by
    have : u.reached = true := hr
    simp [EventUnit.testDue, this]⟩

theorem EventBase.noticeSent {u : EventUnit} (h : EventBase u) : EventOk u.noticeSent := by
  obtain ⟨h1, h2, h3, h4, -⟩ := h
  refine ⟨⟨h1, h2, h3, h4, by simp [EventUnit.noticeSent], by simp [EventUnit.noticeSent], by simp [EventUnit.noticeSent]⟩, ?_⟩
  rw [EventUnit.reached_iff]
  simp only [EventUnit.noticeSent]
  omega

theorem EventBase.countFrame {u : EventUnit} (h : EventBase u) : EventBase u.countFrame := by
  unfold EventUnit.countFrame
  split
  · exact h
  · obtain ⟨h1, h2, h3, h4, h5, h6, h7⟩ := h
    exact ⟨h1, h2, h3, h4, h5, Nat.min_le_left _ _, h7⟩

theorem Group.mask_ne_zero (g : Group) : g.mask ≠ 0 := by cases g <;> decide

/-- R173, R175: a group raising leaves a group flag set and something pending. -/
theorem EventBase.raiseGroup {u : EventUnit} (h : EventBase u) (g : Group) : EventBase (u.raiseGroup g) := by
  obtain ⟨h1, h2, h3, h4, h5, h6, -⟩ := h
  refine ⟨h1, h2, h3, h4, Nat.min_le_left _ _, h6, ?_⟩
  have hg := g.mask_ne_zero
  constructor
  · intro h0
    simp only [EventUnit.raiseGroup] at h0
    exact absurd (BitVec.or_eq_zero_iff.mp h0).2 hg
  · intro h0
    simp only [EventUnit.raiseGroup] at h0
    omega

theorem EventOk.tryNotice {s : State} (h : EventOk s.events) : EventOk (tryNotice s).events := by
  obtain e | e := tryNotice_events s <;> rw [e]
  · exact h
  · exact h.1.noticeSent

theorem EventOk.dueTest {s : State} (h : EventBase s.events) : EventOk (dueTest s).events :=
  EventOk.tryNotice (s := s.setEvents _) h.testDue

/-- R173–R176: every change keeps the law of the event unit. -/
theorem EventLaw.change {may : May} {s t : State} (hs : EventLaw s) (h : Change may s t) :
    EventLaw t := by
  rw [eventLaw_iff] at hs ⊢
  cases h with
  | notice h =>
    cases h with
    | raise e =>
      show EventOk (Machine.raise e s).events
      unfold Machine.raise
      split
      · exact hs
      · split
        · exact EventOk.dueTest (s := s.setEvents _) (EventBase.raiseGroup (u := s.events.setFlag e) hs.1 _)
        · exact hs
    | dueTest => exact EventOk.dueTest hs.1
    | countFrame => exact EventOk.dueTest (s := s.setEvents _) hs.1.countFrame
    | tryNotice => exact EventOk.tryNotice hs
    | thresholds e c f hc hf =>
      obtain ⟨⟨-, -, -, -, h5, h6, h7⟩, -⟩ := hs
      exact EventOk.dueTest ⟨hc.1, hc.2, hf.1, hf.2, h5, h6, h7⟩
    | clearFlags f => exact hs
    | reset =>
      obtain ⟨⟨h1, h2, h3, h4, -⟩, -⟩ := hs
      refine ⟨⟨h1, h2, h3, h4, by simp [EventUnit.reset], by simp [EventUnit.reset], by simp [EventUnit.reset]⟩, ?_⟩
      rw [EventUnit.reached_iff]
      simp only [EventUnit.reset]
      omega
    | addresses a b c d => exact hs
    | emptyIntake => exact hs
  | clear set h => cases set <;> exact hs
  | clearAll h => exact hs
  | _ => exact hs

/-! ## The counters (R179) -/

/-- R179: a counter that only counts on. -/
def CounterGrows (c d : Counter) : Prop := CounterOk c → CounterOk d ∧ c.value ≤ d.value

@[simp] theorem CounterGrows.refl (c : Counter) : CounterGrows c c := fun h => ⟨h, le_refl _⟩

@[simp] theorem CounterGrows.add (c : Counter) (n : Nat) : CounterGrows c (c.add n) := by
  intro h
  refine ⟨h.add n, ?_⟩
  have := h.1
  simp only [Counter.add, Config.counterMax]
  omega

@[simp] theorem CounterGrows.inc (c : Counter) : CounterGrows c c.inc := CounterGrows.add c 1

theorem CounterGrows.trans {c d e : Counter} (h : CounterGrows c d) (h' : CounterGrows d e) : CounterGrows c e :=
  fun hc => ⟨(h' (h hc).1).1, (h hc).2.trans (h' (h hc).1).2⟩

/-- R179: every counter of a set counts on, or the set may be cleared. -/
def SetGrows (may : May) (s t : State) (set : CounterSet) : Prop :=
  List.Forall₂ CounterGrows (countersOf s set) (countersOf t set)
    ∨ (may.clears set ∧ ∀ d ∈ countersOf t set, CounterOk d)

theorem forall₂_counterGrows_refl (cs : List Counter) : List.Forall₂ CounterGrows cs cs :=
  List.forall₂_same.mpr fun c _ => CounterGrows.refl c

theorem SetGrows.of_eq {may : May} {s t : State} {set : CounterSet}
    (h : countersOf t set = countersOf s set) : SetGrows may s t set := by
  rw [SetGrows, h]
  exact .inl (forall₂_counterGrows_refl _)

theorem PortChange.counters {p q : ChainPort} (h : PortChange p q) :
    List.Forall₂ CounterGrows (chainCounters p) (chainCounters q) := by
  cases h with
  | configure cfg h =>
    unfold ChainPort.configure
    split <;> simp [chainCounters, ChainPort.disable]
  | frameStart =>
    unfold ChainPort.frameStart
    split <;> (try split) <;> simp [chainCounters]
  | clearFault =>
    unfold ChainPort.clearFault
    split <;> simp [chainCounters]
  | restart h => simp [chainCounters, ChainPort.restart]
  | evaluate => simp [chainCounters, ChainPort.evaluate]
  | countHoldoff => simp [chainCounters, ChainPort.countHoldoff]
  | closeProbe h => simp [chainCounters, ChainPort.closeProbe]
  | enumFail h => simp [chainCounters, ChainPort.enumFail]
  | _ => simp [chainCounters]

theorem PortLeaves.counters {p q : ChainPort} (h : PortLeaves p q) : chainCounters q = chainCounters p := by
  cases h with
  | disable cfg h hr => simp [ChainPort.configure, h, hr, ChainPort.disable, chainCounters]
  | restart => rfl
  | fail h => rfl

theorem InputChange.counters {s : State} {l : LinkReceiver} {st : FrameStore} (h : InputChange s l st) :
    List.Forall₂ CounterGrows (inputCounters s) [l.lineBad, st.dropped, st.repeated, st.bad] := by
  cases h with
  | close h =>
    simp only [closeInput, inputCounters]
    split
    · simp
    · split
      · simp only [acceptPage]; split <;> simp
      · simp [rejectPage]
  | take seq w h ho =>
    simp only [openInput, inputCounters]
    split <;> simp
  | reject h => simp [inputCounters]
  | line line count px ok h =>
    unfold judgeLine
    split
    · simp only [inputCounters]; split <;> simp
    · simp [inputCounters]
  | settings st hp hr hc =>
    simp only [Prod.mk.injEq] at hc
    simp [inputCounters, hc]

theorem lookIntake_counters (s : State) : intakeCounters (lookIntake s) = intakeCounters s := by
  unfold lookIntake; split <;> rfl

theorem placeOwn_counters (p : ReturnPacket) (s : State) : intakeCounters (placeOwn p s) = intakeCounters s := by
  rw [placeOwn, lookIntake_counters]
  simp [intakeCounters]

theorem tryNotice_counters (s : State) : intakeCounters (tryNotice s) = intakeCounters s := by
  unfold tryNotice
  split
  · exact placeOwn_counters _ _
  · rfl

theorem NoticeChange.counters {s u : State} (h : NoticeChange s u) : intakeCounters u = intakeCounters s :=
  NoticeChange.keeps
    (P := fun i m => [i.framing, i.check, i.misplaced, i.intakeFull, i.repliesDropped, m.drops] = intakeCounters s)
    (fun t ht => (tryNotice_counters t).trans ht) (fun _ _ _ _ _ _ h => h) (fun _ _ h => h) h rfl

/-- R179: the counters of a chain after one entry of the ports has changed. -/
theorem chainCounters_modifyAt {ports : Vector ChainPort 8} {c : Fin 8} {f : ChainPort → ChainPort}
    (h : chainCounters (f ports[c]) = chainCounters ports[c]) (d : Fin 8) :
    chainCounters (modifyAt ports c f)[d] = chainCounters ports[d] := by
  rw [Fin.getElem_fin, modifyAt_getElem]
  split
  · next hd => obtain rfl : d = c := Fin.ext hd; exact h
  · rfl

/-- R179: a set cleared leaves the others. -/
theorem countersOf_clearSet_ne {s : State} {set cleared : CounterSet} (h : set ≠ cleared) :
    countersOf (clearSet s cleared) set = countersOf s set := by
  cases cleared with
  | input =>
    cases set with
    | input => exact absurd rfl h
    | intake => rfl
    | chain d => rfl
  | intake =>
    cases set with
    | input => rfl
    | intake => exact absurd rfl h
    | chain d => rfl
  | chain c =>
    cases set with
    | input => rfl
    | intake => rfl
    | chain d =>
      have hd : ¬ d.val = c.val := fun hd => h (by rw [Fin.ext hd])
      simp [countersOf, clearSet, hd]

/-- R179: every change lets the counters of a set count on, or clears a set that may be cleared. -/
theorem Change.counters {may : May} {s t : State} (h : Change may s t) (set : CounterSet) :
    SetGrows may s t set := by
  cases h with
  | input h =>
    cases set with
    | input => exact .inl h.counters
    | intake => exact SetGrows.of_eq rfl
    | chain c => exact SetGrows.of_eq rfl
  | settle _ =>
    cases set with
    | input =>
      refine .inl ?_
      simp only [countersOf, inputCounters, settlePages]
      split <;> simp
    | intake => exact SetGrows.of_eq rfl
    | chain c => exact SetGrows.of_eq rfl
  | chains h =>
    cases set with
    | input => exact SetGrows.of_eq rfl
    | intake => exact SetGrows.of_eq rfl
    | chain d =>
      cases h with
      | ports ps h => exact .inl (h d).counters
      | leave c p acc h ha => exact SetGrows.of_eq (chainCounters_modifyAt h.counters d)
      | install c h hc => exact SetGrows.of_eq (chainCounters_modifyAt rfl d)
      | _ => exact SetGrows.of_eq rfl
  | notice h =>
    cases set with
    | input => exact SetGrows.of_eq rfl
    | intake => exact SetGrows.of_eq h.counters
    | chain d => exact SetGrows.of_eq rfl
  | clear cleared h =>
    by_cases hset : set = cleared
    · subst hset
      refine .inr ⟨h, ?_⟩
      cases set with
      | chain c => simp [countersOf, clearSet, chainCounters, ChainPort.clearCounters, CounterOk.zero]
      | _ => simp [countersOf, clearSet, inputCounters, intakeCounters, clearInputCounters, clearIntakeCounters, CounterOk.zero]
    · refine SetGrows.of_eq ?_
      exact countersOf_clearSet_ne hset
  | clearAll h =>
    refine .inr ⟨h set, ?_⟩
    cases set <;>
      simp [countersOf, clearCounters, inputCounters, intakeCounters, clearInputCounters, clearIntakeCounters,
        chainCounters, ChainPort.clearCounters, CounterOk.zero]
  | lights h => cases set <;> exact SetGrows.of_eq rfl
  | _ => cases set <;> exact SetGrows.of_eq rfl

theorem counterLaw_iff (s : State) : CounterLaw s ↔ ∀ set, ∀ c ∈ countersOf s set, CounterOk c := by
  constructor
  · rintro ⟨hi, hk, hc⟩ (_ | _ | x)
    · exact hi
    · exact hk
    · exact hc x
  · exact fun h => ⟨h .input, h .intake, fun x => h (.chain x)⟩

theorem CounterLaw.of_grows {may : May} {s t : State} (hs : CounterLaw s)
    (h : ∀ set, SetGrows may s t set) : CounterLaw t := by
  rw [counterLaw_iff] at hs ⊢
  intro set d hd
  obtain h | ⟨-, h⟩ := h set
  · obtain ⟨i, hi, rfl⟩ := List.mem_iff_getElem.mp hd
    have hi' : i < (countersOf s set).length := h.length_eq ▸ hi
    exact ((List.forall₂_iff_get.mp h).2 i hi' hi (hs set _ (List.getElem_mem hi'))).1
  · exact h d hd

end Sys2Proof.Machine
end

section
/-! What the blocks' work at an output frame end can touch, block by block (R17, Table 1-7): a property of the other
blocks that raisings and the event unit's count keep, that work keeps. -/

namespace Sys2Proof.Machine

/-! ## Raisings leave every other block -/

/-- Two states that differ in the event unit, the intake, the return lane and what was sent. -/
theorem State.eq_of_blocks {s t : State} (hpins : t.pins = s.pins) (hlink : t.link = s.link) (hstore : t.store = s.store)
    (htiming : t.timing = s.timing) (hlooks : t.looks = s.looks) (hcomp : t.comp = s.comp) (hports : t.ports = s.ports)
    (hpower : t.power = s.power) (hthermal : t.thermal = s.thermal) (hcues : t.cues = s.cues)
    (hlights : t.lights = s.lights) (hfollow : t.follow = s.follow) (hfree : t.freeIndex = s.freeIndex)
    (hpending : t.pending = s.pending) :
    t = { s with events := t.events, intake := t.intake, ret := t.ret, out := t.out } := by
  cases t; cases s; simp_all

theorem raise_frame (e : Source) (s : State) :
    raise e s =
      { s with
        events := (raise e s).events, intake := (raise e s).intake, ret := (raise e s).ret, out := (raise e s).out } := by
  apply State.eq_of_blocks <;> simp

theorem countFrame_frame (s : State) :
    countFrame s =
      { s with
        events := (countFrame s).events, intake := (countFrame s).intake, ret := (countFrame s).ret
        out := (countFrame s).out } := by
  apply State.eq_of_blocks <;> simp

theorem tryNotice_frame (s : State) :
    tryNotice s =
      { s with
        events := (tryNotice s).events, intake := (tryNotice s).intake, ret := (tryNotice s).ret
        out := (tryNotice s).out } := by
  apply State.eq_of_blocks <;> simp

/-! ## The ports, the zones and the limiters -/

section

variable {P : State → Prop} (hr : ∀ e s, P s → P (raise e s))
include hr

theorem raiseWhen_keeps (b : Bool) (e : Source) {s : State} (h : P s) : P (raiseWhen b e s) := by
  cases b
  · exact h
  · exact hr e s h

theorem evaluateZone_keeps (ht : ∀ s t, t.config = s.thermal.config → P s → P { s with thermal := t }) (z : Fin 16)
    {s : State} (h : P s) : P (evaluateZone z s) := by
  have hcount : P (s.modifyZone z fun r => r.count s.thermal.config (membersOf s z).length (effectiveTemp s z)) :=
    ht s _ rfl h
  unfold evaluateZone
  generalize s.modifyZone z _ = t at hcount ⊢
  have hmove : ∀ st, P (moveZone z st t) := fun st => ht t _ rfl hcount
  unfold settleZone
  split
  · exact hr _ _ (hmove _)
  · exact hr _ _ (hmove _)
  · refine hr _ _ ?_
    unfold blackOut
    split
    · exact ht _ _ rfl (hmove _)
    · exact ht _ _ rfl (hmove _)
  · exact hcount
  · unfold moveDown
    split
    · exact hmove _
    · exact hcount

theorem portSteps_keeps
    (hp : ∀ (s : State) ps ls, (∀ c : Fin 8, ls[c].acc = s.power.limiters[c].acc) → P s →
      P { s with ports := ps, power := { s.power with limiters := ls } })
    (c : Fin 8) (p : ChainPort) : ∀ f ∈ portSteps c p, ∀ s, P s → P (f s) := by
  have hport : ∀ (s : State) (f : ChainPort → ChainPort), P s → P (s.modifyPort c f) :=
    fun s f h => hp s _ s.power.limiters (fun _ => rfl) h
  have hdrop : ∀ s, P s → P (dropLimiter c s) := fun s h => hp s s.ports _ (fun d => by
    rw [Fin.getElem_fin, modifyAt_getElem]
    split
    · next hd => obtain rfl : d = c := Fin.ext hd; rfl
    · rfl) h
  intro f hf s h
  unfold portSteps at hf
  split at hf
  · simp at hf
  · obtain rfl := List.mem_singleton.mp hf; exact hport s _ h
  · split at hf
    · simp only [List.mem_cons, List.not_mem_nil, or_false] at hf
      obtain rfl | rfl := hf
      · exact raiseWhen_keeps hr _ _ h
      · unfold endEnumeration
        split
        · exact hport s _ h
        · exact hr _ _ (hdrop _ (hport s _ h))
    · simp at hf
  · simp only [runSteps, List.mem_append, List.mem_cons, List.mem_map, List.not_mem_nil, or_false] at hf
    obtain (rfl | ⟨i, -, rfl⟩) | rfl := hf
    · exact hport s _ h
    · unfold markSilent
      split
      · exact hr _ _ (hport s _ h)
      · exact h
    · unfold failChain
      split
      · exact hr _ _ (hdrop _ (hport s _ h))
      · exact h
  · obtain rfl := List.mem_singleton.mp hf
    unfold failedFrameEnd recoverChain
    split
    · exact hport _ _ (hport s _ h)
    · exact hport s _ h

variable (hc : ∀ s, P s → P (countFrame s))
include hc

/-- R55–R57: the ports' work touches the ports and the limiters, and of a limiter not the accumulator. -/
theorem portsFrameEnd_keeps
    (hp : ∀ (s : State) ps ls, (∀ c : Fin 8, ls[c].acc = s.power.limiters[c].acc) → P s →
      P { s with ports := ps, power := { s.power with limiters := ls } })
    {w : EndWork} (h : P w.state) : P (portsFrameEnd w).state :=
  EndWork.foldl_keeps (fun w c h => EndWork.actAll_keeps h (portSteps_keeps hr hp c w.state.ports[c]) hc) h

/-- R98–R106: the thermal block's work touches the zones. -/
theorem thermalFrameEnd_keeps (ht : ∀ s t, t.config = s.thermal.config → P s → P { s with thermal := t }) {w : EndWork}
    (h : P w.state) : P (thermalFrameEnd w).state := by
  refine EndWork.act_keeps (EndWork.actAll_keeps h (fun f hf s h => ?_) hc) (fun s h => ht s _ rfl h) hc
  obtain ⟨z, -, rfl⟩ := List.mem_map.mp hf
  exact evaluateZone_keeps hr ht z h

/-- R91–R95: the power block's work touches the limiters. -/
theorem powerFrameEnd_keeps (hl : ∀ (s : State) ls, P s → P { s with power := { s.power with limiters := ls } })
    {w : EndWork} (h : P w.state) : P (powerFrameEnd w).state := by
  refine EndWork.foldl_keeps (fun w c h => EndWork.act_keeps (EndWork.act_keeps h (fun s h => ?_) hc) (fun s h => ?_) hc) h
  · unfold evaluateLimiter
    split
    · exact raiseWhen_keeps hr _ _ (hl s _ h)
    · exact hl s _ h
  · exact raiseWhen_keeps hr _ _ h

/-- Every block behind the cue engine, in any order. -/
theorem blocksFrameEnd_keeps
    (hp : ∀ (s : State) ps ls, P s → P { s with ports := ps, power := { s.power with limiters := ls } })
    (ht : ∀ s t, t.config = s.thermal.config → P s → P { s with thermal := t }) (order : FrameEndOrder) {w : EndWork}
    (h : P w.state) : P (blocksFrameEnd order w).state := by
  have hports : ∀ {w : EndWork}, P w.state → P (portsFrameEnd w).state :=
    fun h => portsFrameEnd_keeps hr hc (fun s ps ls _ => hp s ps ls) h
  have hthermal : ∀ {w : EndWork}, P w.state → P (thermalFrameEnd w).state := fun h => thermalFrameEnd_keeps hr hc ht h
  have hpower : ∀ {w : EndWork}, P w.state → P (powerFrameEnd w).state :=
    fun h => powerFrameEnd_keeps hr hc (fun s ls => hp s s.ports ls) h
  unfold blocksFrameEnd portsAndThermal
  split <;> split
  · exact hports (hthermal (hpower h))
  · exact hthermal (hports (hpower h))
  · exact hpower (hports (hthermal h))
  · exact hpower (hthermal (hports h))

end

/-! ## The accumulators (R91, R93) -/

/-- R91, R93: one chain's evaluation clears its accumulator and touches no other. -/
theorem evaluateLimiter_acc (c d : Fin 8) (s : State) :
    (evaluateLimiter c s).power.limiters[d].acc = if d = c then 0 else s.power.limiters[d].acc := by
  unfold evaluateLimiter
  split <;> by_cases h : d.val = c.val <;> simp [h, Fin.ext_iff]

theorem powerFrameEndChain_acc (w : EndWork) (c d : Fin 8) :
    (powerFrameEndChain w c).state.power.limiters[d].acc = if d = c then 0 else w.state.power.limiters[d].acc := by
  unfold powerFrameEndChain
  have hlast : ∀ (v : EndWork) (b : Bool),
      (v.act (raiseWhen b .powerHeavy)).state.power = v.state.power := fun v b => by
    obtain ⟨e, -⟩ | ⟨e, -⟩ := v.act_cases (raiseWhen b .powerHeavy) <;> rw [e] <;> simp
  rw [hlast]
  obtain ⟨e, -⟩ | ⟨e, -⟩ := w.act_cases (evaluateLimiter c) <;> rw [e, evaluateLimiter_acc]
  rw [countFrame_power]

/-- R91: after the power block's work every accumulator is clear. -/
theorem powerFrameEnd_acc (w : EndWork) (d : Fin 8) : (powerFrameEnd w).state.power.limiters[d].acc = 0 := by
  have key : ∀ (cs : List (Fin 8)) (w : EndWork), d ∈ cs ∨ w.state.power.limiters[d].acc = 0 →
      (cs.foldl powerFrameEndChain w).state.power.limiters[d].acc = 0 := by
    intro cs
    induction cs with
    | nil => exact fun w h => h.elim (by simp) id
    | cons c cs ih =>
      intro w h
      refine ih _ ?_
      rw [powerFrameEndChain_acc]
      by_cases hd : d = c
      · exact .inr (if_pos hd)
      · rw [if_neg hd]
        exact h.imp_left fun hm => (List.mem_cons.mp hm).resolve_left hd
  exact key _ w (.inl (List.mem_finRange d))

/-- R91: every accumulator is clear. -/
def AccsClear (p : Power) : Prop := ∀ c : Fin 8, p.limiters[c].acc = 0

/-- R91, R93: after every block's work every accumulator is clear, whatever the order. -/
theorem frameEndWork_acc (order : FrameEndOrder) (s : State) : AccsClear (frameEndWork order s).power := by
  have hr : ∀ e t, AccsClear t.power → AccsClear (raise e t).power := fun e t h => by rwa [raise_power]
  have hc : ∀ t : State, AccsClear t.power → AccsClear (countFrame t).power := fun t h => by rwa [countFrame_power]
  have hports : ∀ {w : EndWork}, AccsClear w.state.power → AccsClear (portsFrameEnd w).state.power :=
    fun h => portsFrameEnd_keeps (P := fun t => AccsClear t.power) hr hc
      (fun t ps ls hacc h d => (hacc d).trans (h d)) h
  have hthermal : ∀ {w : EndWork}, AccsClear w.state.power → AccsClear (thermalFrameEnd w).state.power :=
    fun h => thermalFrameEnd_keeps (P := fun t => AccsClear t.power) hr hc (fun _ _ _ h => h) h
  unfold frameEndWork
  refine EndWork.finish_keeps (P := fun t => AccsClear t.power)
    (EndWork.act_keeps (P := fun t => AccsClear t.power) ?_ (fun _ h => h) hc) hc
  unfold blocksFrameEnd portsAndThermal
  split <;> split
  · exact hports (hthermal (powerFrameEnd_acc _))
  · exact hthermal (hports (powerFrameEnd_acc _))
  · exact powerFrameEnd_acc _
  · exact powerFrameEnd_acc _

end Sys2Proof.Machine
end

section
/-! The frame events as chains of block changes (R17, Table 1-7): each operation after a chain makes a longer chain. -/

namespace Sys2Proof.Machine

section

variable {may : May} {s₀ s : State}

/-! ## Single operations -/

theorem Changes.step {t : State} (h : Changes may s₀ s) (hc : Change may s t) : Changes may s₀ t :=
  Relation.ReflTransGen.tail h hc

theorem Changes.raise (e : Source) (h : Changes may s₀ s) : Changes may s₀ (Machine.raise e s) := by
  rw [raise_frame]
  exact h.step (.notice (NoticeChange.raise e))

theorem Changes.raiseWhen (b : Bool) (e : Source) (h : Changes may s₀ s) :
    Changes may s₀ (Machine.raiseWhen b e s) :=
  raiseWhen_keeps (fun e _ => Changes.raise e) b e h

theorem Changes.countFrame (h : Changes may s₀ s) : Changes may s₀ (Machine.countFrame s) := by
  rw [countFrame_frame]
  exact h.step (.notice NoticeChange.countFrame)

theorem Changes.out (h : Changes may s₀ s) (out : Output) : Changes may s₀ { s with out := out } :=
  h.step (.model out s.freeIndex)

theorem Changes.store (h : Changes may s₀ s) {st : FrameStore} (hc : InputChange s s.link st) :
    Changes may s₀ { s with store := st } :=
  h.step (.input hc)

/-- R48–R59: one port changed. -/
theorem Changes.port (c : Fin 8) {f : ChainPort → ChainPort} (h : Changes may s₀ s)
    (hc : PortChange s.ports[c] (f s.ports[c])) : Changes may s₀ (s.modifyPort c f) := by
  refine h.step (.chains (ps := modifyAt s.ports c f) (.ports _ fun d => ?_))
  simp only [Fin.getElem_fin, modifyAt_getElem]
  split
  · next hd => obtain rfl : d = c := Fin.ext hd; exact hc
  · exact .keep

/-- Every port changed. -/
theorem Changes.ports {f : ChainPort → ChainPort} (h : Changes may s₀ s) (hc : ∀ p, PortChange p (f p)) :
    Changes may s₀ { s with ports := mapAll f s.ports } := by
  refine h.step (.chains (ps := mapAll f s.ports) (.ports _ fun c => ?_))
  simp only [Fin.getElem_fin, mapAll_getElem]
  exact hc _

/-- R93: a port that leaves RUN, its limiter dropped. -/
theorem Changes.leave (c : Fin 8) {f : ChainPort → ChainPort} (h : Changes may s₀ s)
    (hc : PortLeaves s.ports[c] (f s.ports[c])) : Changes may s₀ (dropLimiter c (s.modifyPort c f)) :=
  h.step (.chains (.leave c (f s.ports[c]) s.power.limiters[c].acc hc fun _ => rfl))

/-- R158: the follow block but for its values. -/
theorem Changes.follow (h : Changes may s₀ s) {f : FollowBlock} (hf : f.values = s.follow.values) :
    Changes may s₀ { s with follow := f } :=
  h.step (.lights (.output f hf))

/-! ## Output frame start -/

theorem Changes.beginFrame (h : Changes may s₀ s) : Changes may s₀ (Machine.beginFrame s) :=
  h.step (.timing _ (.inr (.inl rfl)))

theorem Changes.endLoss (h : Changes may s₀ s) : Changes may s₀ (Machine.endLoss s) := by
  unfold Machine.endLoss
  split
  · exact Changes.raise _ (h.store (.settings _ rfl rfl rfl))
  · exact h

theorem Changes.raiseLoss (h : Changes may s₀ s) : Changes may s₀ (Machine.raiseLoss s) := by
  unfold Machine.raiseLoss
  split
  · exact Changes.raise _ (h.store (.settings _ rfl rfl rfl))
  · exact h

theorem Changes.storeFrameStart (hm : may.starts) (h : Changes may s₀ s) :
    Changes may s₀ (Machine.storeFrameStart s).1 :=
  Changes.store (Changes.raiseLoss (Changes.endLoss (h.step (.settle hm)))) (.settings _ rfl rfl rfl)

theorem Changes.stepMaster (h : Changes may s₀ s) : Changes may s₀ (Machine.stepMaster s) := h.step (.master .step)

theorem Changes.stepLightMaster (h : Changes may s₀ s) : Changes may s₀ (Machine.stepLightMaster s) :=
  h.step (.lightMaster .step)

theorem Changes.stepFades (h : Changes may s₀ s) : Changes may s₀ (Machine.stepFades s) := h.step (.lights .stepFades)

theorem Changes.takeLatch (source : PictureSource) (h : Changes may s₀ s) :
    Changes may s₀ (Machine.takeLatch source s) :=
  Changes.raiseWhen _ _ (h.step (.latch _))

theorem Changes.markMeasured (h : Changes may s₀ s) : Changes may s₀ (Machine.markMeasured s) :=
  h.step (.chains .measure)

theorem PortChange.of_frameStart (p : ChainPort) : PortChange p p.frameStart := .frameStart

theorem Changes.sendPorts (h : Changes may s₀ s) : Changes may s₀ (Machine.sendPorts s) :=
  Changes.out (h.ports PortChange.of_frameStart) _

theorem Changes.addDemand (h : Changes may s₀ s) (ha : s.timing.phase = .active) :
    Changes may s₀ (Machine.addDemand s) :=
  h.step (.chains (.demand ha))

theorem Changes.measureRegions (h : Changes may s₀ s) : Changes may s₀ (Machine.measureRegions s) := h.follow rfl

theorem Changes.composeImages (h : Changes may s₀ s) : Changes may s₀ (Machine.composeImages s) := h.follow rfl

theorem Changes.stepFollow (h : Changes may s₀ s) : Changes may s₀ (Machine.stepFollow s) :=
  h.step (.lights LightChange.stepFollow)

theorem Changes.sendLevels (h : Changes may s₀ s) : Changes may s₀ (Machine.sendLevels s) := h.out _

theorem storeFrameStart_timing (s : State) : (Machine.storeFrameStart s).1.timing = s.timing := by
  simp only [Machine.storeFrameStart, Machine.raiseLoss, Machine.endLoss]
  split <;> split <;> simp

theorem takeLatch_timing (source : PictureSource) (s : State) : (Machine.takeLatch source s).timing = s.timing := by
  simp [Machine.takeLatch]

/-- R17, Table 1-7: the state that an output frame start latches, with the picture source. -/
def latchedState (s : State) : State :=
  takeLatch (storeFrameStart (beginFrame s)).2
    (stepLightMaster (stepFades (stepMaster (storeFrameStart (beginFrame s)).1)))

theorem frameStart_eq (s : State) :
    frameStart s =
      sendLevels (composeImages (stepFollow (measureRegions (addDemand (sendPorts (markMeasured (latchedState s))))))) :=
  rfl

theorem latchedState_timing (s : State) : (latchedState s).timing = (beginFrame s).timing := by
  rw [latchedState, takeLatch_timing]
  exact storeFrameStart_timing _

theorem Changes.latchedState (hm : may.starts) (h : Changes may s₀ s) : Changes may s₀ (Machine.latchedState s) :=
  Changes.takeLatch _
    (Changes.stepLightMaster (Changes.stepFades (Changes.stepMaster (Changes.storeFrameStart hm h.beginFrame))))

/-- R17: an output frame start. -/
theorem Changes.frameStart (hm : may.starts) (h : Changes may s₀ s) : Changes may s₀ (Machine.frameStart s) := by
  have hactive : (Machine.latchedState s).timing.phase = .active := by rw [latchedState_timing]; rfl
  have hlatched := Changes.latchedState hm h
  rw [frameStart_eq]
  generalize Machine.latchedState s = t at hlatched hactive ⊢
  have hsent := Changes.addDemand (Changes.sendPorts (Changes.markMeasured hlatched)) hactive
  exact Changes.sendLevels (Changes.composeImages (Changes.stepFollow (Changes.measureRegions hsent)))

end

end Sys2Proof.Machine
end

section
/-! The output frame end as a chain of block changes (R17, Table 1-7). -/

namespace Sys2Proof.Machine

section

variable {may : May} {s₀ s : State}

/-! ## The cue engine and the look checker -/

/-- R122, R123: a chain that has left the cue queue as it was; the actions of a walk are issued within it. -/
def Firing (may : May) (s₀ s : State) : Prop :=
  Changes may s₀ s ∧ s.cues.queue = s₀.cues.queue

theorem Firing.raise (e : Source) (h : Firing may s₀ s) : Firing may s₀ (Machine.raise e s) :=
  ⟨Changes.raise e h.1, by rw [raise_cues]; exact h.2⟩

theorem Firing.countFrame (h : Firing may s₀ s) : Firing may s₀ (Machine.countFrame s) :=
  ⟨Changes.countFrame h.1, by rw [countFrame_cues]; exact h.2⟩

/-- R122: the notes of a walk stand beside the queue. -/
theorem Firing.note (h : Firing may s₀ s) {c : CueEngine} (hq : c.queue = s.cues.queue) :
    Firing may s₀ { s with cues := c } :=
  ⟨h.1.step (.cues c (hq ▸ .sublist _ (List.Sublist.refl _))), hq.trans h.2⟩

theorem Firing.noteSkip (id : Nat) (kind : SkippedAction) (h : Firing may s₀ s) :
    Firing may s₀ (Machine.noteSkip id kind s) :=
  Firing.raise _ (Firing.note h rfl)

theorem Firing.swapLook (h : Firing may s₀ s) : Firing may s₀ (Machine.swapLook s) := by
  unfold Machine.swapLook
  split
  · next hchecked => exact Firing.raise _ ⟨h.1.step (.looks (.swap hchecked)), h.2⟩
  · exact Firing.raise _ h

theorem Firing.issueFade (id : Nat) (x : FadeAction × Nat) (h : Firing may s₀ s) :
    Firing may s₀ (Machine.issueFade id x s) := by
  unfold Machine.issueFade lightFade
  split
  · next entries hready => exact ⟨h.1.step (.lights (.fade _ entries hready)), h.2⟩
  · exact Firing.noteSkip _ _ h
  · exact Firing.noteSkip _ _ h
  · exact Firing.noteSkip _ _ h

theorem Firing.issueFollow (c : Cue) (h : Firing may s₀ s) : Firing may s₀ (Machine.issueFollow c s) := by
  unfold Machine.issueFollow followAction
  split
  · split
    · exact ⟨h.1.step (.lights (.followOn _)), h.2⟩
    · exact ⟨h.1.step (.lights (.followOff _)), h.2⟩
  · exact h

/-- R122, R123: each step of a cue of the queue. -/
theorem Firing.firingSteps {c : Cue} (hc : c ∈ s₀.cues.queue) :
    ∀ f ∈ Machine.firingSteps c, ∀ s, Firing may s₀ s → Firing may s₀ (f s) := by
  intro f hf s h
  have hcs : c ∈ s.cues.queue := h.2 ▸ hc
  simp only [Machine.firingSteps, List.mem_append, List.mem_cons, List.mem_map, List.not_mem_nil, or_false] at hf
  obtain ((rfl | rfl | rfl) | ⟨x, -, rfl⟩) | rfl | rfl | rfl := hf
  · unfold issueSwap
    split
    · exact Firing.swapLook h
    · exact h
  · unfold noteSwap
    split
    · exact Firing.noteSkip _ _ h
    · exact h
  · unfold issueMaster
    split
    · next m hm => exact ⟨h.1.step (.master (.begin _ _ (.inr ⟨c, hcs, m, .inl hm, rfl⟩))), h.2⟩
    · exact h
  · exact Firing.issueFade _ _ h
  · exact Firing.issueFollow c h
  · unfold issueLightMaster
    split
    · next m hm => exact ⟨h.1.step (.lightMaster (.begin _ _ (.inr ⟨c, hcs, m, .inr hm, rfl⟩))), h.2⟩
    · exact h
  · exact Firing.raise _ (Firing.note h rfl)

/-- R121: the cue engine's work. -/
theorem Changes.cuesFrameEnd {w : EndWork} (h : Changes may s₀ w.state) :
    Changes may s₀ (Machine.cuesFrameEnd w).state := by
  have hwalk : Firing may w.state
      (w.actAll ((w.state.cues.queue.filter (cueDue w.state.timing.frame)).flatMap Machine.firingSteps)).state := by
    refine EndWork.actAll_keeps ⟨.refl, rfl⟩ (fun f hf => ?_) fun s => Firing.countFrame
    obtain ⟨c, hc, hf⟩ := List.mem_flatMap.mp hf
    exact Firing.firingSteps (List.mem_filter.mp hc).1 f hf
  exact EndWork.act_keeps (h.trans hwalk.1) (fun s h => h.step (.cues _ (.settle _))) fun s => Changes.countFrame

theorem Changes.completeCheck (h : Changes may s₀ s) (hc : s.looks.staged = .checking) :
    Changes may s₀ (Machine.completeCheck s) :=
  Changes.raise _ (h.step (.looks (.complete hc)))

theorem Changes.checkFrameEnd (h : Changes may s₀ s) : Changes may s₀ (Machine.checkFrameEnd s) := by
  unfold Machine.checkFrameEnd
  split
  · next hc =>
    split
    · exact h.step (.looks (.countEnd hc))
    · exact Changes.completeCheck h hc
  · exact h

/-! ## The chain ports -/

theorem Changes.markSilent (c : Fin 8) (i : Fin 16) (h : Changes may s₀ s) :
    Changes may s₀ (Machine.markSilent c i s) := by
  unfold Machine.markSilent
  split
  · exact Changes.raise _ (h.port c (.markSilent i))
  · exact h

theorem Changes.failChain (c : Fin 8) (h : Changes may s₀ s) : Changes may s₀ (Machine.failChain c s) := by
  unfold Machine.failChain
  split
  · next hdue =>
    simp only [failureDue, Bool.and_eq_true, beq_iff_eq] at hdue
    obtain ⟨⟨hrun, -⟩, -⟩ := hdue
    exact Changes.raise _ (h.leave c (.fail hrun))
  · exact h

theorem Changes.endEnumeration (c : Fin 8) (h : Changes may s₀ s) (hs : s.ports[c].state = .enumerate) :
    Changes may s₀ (Machine.endEnumeration c s) := by
  unfold Machine.endEnumeration
  split
  · exact h.port c (.enumFail hs)
  · next hne => exact Changes.raise _ (h.step (.chains (.install c hs (by simpa using hne))))

theorem Changes.failedFrameEnd (c : Fin 8) (h : Changes may s₀ s) : Changes may s₀ (Machine.failedFrameEnd c s) := by
  have hcounted : Changes may s₀ (s.modifyPort c ChainPort.countHoldoff) := h.port c .countHoldoff
  unfold Machine.failedFrameEnd recoverChain
  split
  · next hdue =>
    simp only [recoveryDue, Bool.and_eq_true, beq_iff_eq] at hdue
    obtain ⟨⟨hfailed, -⟩, -⟩ := hdue
    exact hcounted.port c (.recover hfailed)
  · exact hcounted

/-- R50–R57: one port's evaluation; its steps are those of the state it holds at the frame end. -/
theorem Changes.portFrameEnd (c : Fin 8) {w : EndWork} (h : Changes may s₀ w.state) :
    Changes may s₀ (Machine.portFrameEnd w c).state := by
  have hcount : ∀ s, Changes may s₀ s ∧ s.ports = w.state.ports →
      Changes may s₀ (Machine.countFrame s) ∧ (Machine.countFrame s).ports = w.state.ports :=
    fun s hs => ⟨Changes.countFrame hs.1, by rw [countFrame_ports]; exact hs.2⟩
  have hone : ∀ (v : EndWork) (f : State → State), Changes may s₀ v.state ∧ v.state.ports = w.state.ports →
      (∀ s, Changes may s₀ s → s.ports = w.state.ports → Changes may s₀ (f s)) →
      Changes may s₀ (v.act f).state := by
    intro v f hv hf
    obtain ⟨e, -⟩ | ⟨e, -⟩ := v.act_cases f <;> rw [e]
    · exact hf _ hv.1 hv.2
    · exact hf _ (hcount _ hv).1 (hcount _ hv).2
  unfold Machine.portFrameEnd portSteps
  split
  · exact h
  · next hstate => exact hone _ _ ⟨h, rfl⟩ fun s hs hports => hs.port c (.closeProbe (by rw [hports, hstate]))
  · next hstate =>
    split
    · have hcompared := EndWork.act_keeps (f := compareRoster c)
        (P := fun s => Changes may s₀ s ∧ s.ports = w.state.ports) ⟨h, rfl⟩
        (fun s hs => ⟨Changes.raiseWhen _ _ hs.1, by rw [compareRoster, raiseWhen_ports]; exact hs.2⟩) hcount
      exact hone _ _ hcompared fun s hs hports => Changes.endEnumeration c hs (by rw [hports, hstate])
    · exact h
  · refine EndWork.actAll_keeps h (fun f hf s hs => ?_) fun s => Changes.countFrame
    simp only [runSteps, List.mem_append, List.mem_cons, List.mem_map, List.not_mem_nil, or_false] at hf
    obtain (rfl | ⟨i, -, rfl⟩) | rfl := hf
    · exact hs.port c .evaluate
    · exact Changes.markSilent c i hs
    · exact Changes.failChain c hs
  · exact hone _ _ ⟨h, rfl⟩ fun s hs _ => Changes.failedFrameEnd c hs

theorem Changes.portsFrameEnd {w : EndWork} (h : Changes may s₀ w.state) :
    Changes may s₀ (Machine.portsFrameEnd w).state :=
  EndWork.foldl_keeps (fun _ c => Changes.portFrameEnd c) h

/-! ## The zones -/

theorem Changes.moveZone (z : Fin 16) {st : ZoneState} (hst : st ≠ .shutdown) (h : Changes may s₀ s) :
    Changes may s₀ (Machine.moveZone z st s) :=
  h.step (.thermal (.move z st hst))

theorem blackOut_frame (z : Fin 16) (s : State) : blackOut z s = { s with thermal := (blackOut z s).thermal } := by
  unfold blackOut
  split <;> rfl

theorem Changes.enterShutdown (z : Fin 16) (h : Changes may s₀ s) : Changes may s₀ (Machine.enterShutdown z s) := by
  refine Changes.raise _ ?_
  rw [blackOut_frame]
  exact h.step (.thermal (.shut z))

theorem downTarget_ne_shutdown {cfg : ThermalConfig} {z : Zone} {st : ZoneState} (h : downTarget cfg z = some st) :
    st ≠ .shutdown := by
  unfold downTarget at h
  rintro rfl
  split at h
  · simp at h
  · split at h <;> simp_all

theorem Changes.evaluateZone (z : Fin 16) (h : Changes may s₀ s) : Changes may s₀ (Machine.evaluateZone z s) := by
  have hcounted : Changes may s₀
      (s.modifyZone z fun r => r.count s.thermal.config (membersOf s z).length (effectiveTemp s z)) :=
    h.step (.thermal (.count z _ _))
  unfold Machine.evaluateZone
  generalize s.modifyZone z _ = t at hcounted ⊢
  unfold settleZone
  split
  · exact Changes.raise _ (hcounted.moveZone z nofun)
  · exact Changes.raise _ (hcounted.moveZone z nofun)
  · exact hcounted.enterShutdown z
  · exact hcounted
  · unfold moveDown
    split
    · next hdown => exact hcounted.moveZone z (downTarget_ne_shutdown hdown)
    · exact hcounted

theorem Changes.thermalFrameEnd {w : EndWork} (h : Changes may s₀ w.state) :
    Changes may s₀ (Machine.thermalFrameEnd w).state := by
  refine EndWork.act_keeps (EndWork.actAll_keeps h (fun f hf s hs => ?_) fun s => Changes.countFrame)
    (fun s hs => hs.step (.thermal .scales)) fun s => Changes.countFrame
  obtain ⟨z, -, rfl⟩ := List.mem_map.mp hf
  exact Changes.evaluateZone z hs

/-! ## The limiters -/

theorem Changes.evaluateLimiter (c : Fin 8) (h : Changes may s₀ s) : Changes may s₀ (Machine.evaluateLimiter c s) := by
  unfold Machine.evaluateLimiter
  split
  · next hev => exact Changes.raiseWhen _ _ (h.step (.chains (.scale c hev)))
  · exact h.step (.chains (.clearAcc c))

theorem Changes.powerFrameEnd {w : EndWork} (h : Changes may s₀ w.state) :
    Changes may s₀ (Machine.powerFrameEnd w).state :=
  EndWork.foldl_keeps
    (fun _ c h => EndWork.act_keeps
      (EndWork.act_keeps h (fun _ => Changes.evaluateLimiter c) fun _ => Changes.countFrame)
      (fun _ => Changes.raiseWhen _ _) fun _ => Changes.countFrame)
    h

/-! ## The frame end -/

theorem Changes.blocksFrameEnd (order : FrameEndOrder) {w : EndWork} (h : Changes may s₀ w.state) :
    Changes may s₀ (Machine.blocksFrameEnd order w).state := by
  unfold Machine.blocksFrameEnd portsAndThermal
  split <;> split
  · exact h.powerFrameEnd.thermalFrameEnd.portsFrameEnd
  · exact h.powerFrameEnd.portsFrameEnd.thermalFrameEnd
  · exact h.thermalFrameEnd.portsFrameEnd.powerFrameEnd
  · exact h.portsFrameEnd.thermalFrameEnd.powerFrameEnd

theorem Changes.frameEndWork (order : FrameEndOrder) (h : Changes may s₀ s) :
    Changes may s₀ (Machine.frameEndWork order s) := by
  have hcues : Changes may s₀ (Machine.cuesFrameEnd { state := s, left := some order.countAt }).state :=
    Changes.cuesFrameEnd (w := { state := s, left := some order.countAt }) h
  have hchecked := EndWork.act_keeps hcues (fun s => Changes.checkFrameEnd) fun s => Changes.countFrame
  exact EndWork.finish_keeps
    (EndWork.act_keeps (Changes.blocksFrameEnd order hchecked) (fun s hs => hs.follow rfl) fun s => Changes.countFrame)
    fun s => Changes.countFrame

/-- R17: an output frame end, with the frame start held behind it. -/
theorem Changes.frameEnd (hm : may.starts) (order : FrameEndOrder) (h : Changes may s₀ s) :
    Changes may s₀ (Machine.frameEnd order s) := by
  have hended : Changes may s₀ (endFrame (Machine.frameEndWork order s)) :=
    (h.frameEndWork order).step (.timing _ (.inr (.inr (frameEndWork_acc order s))))
  unfold Machine.frameEnd
  extract_lets ended
  split
  · exact Changes.frameStart hm hended
  · exact hended

theorem Changes.frameEndWhen (hm : may.starts) (comes : Bool) (h : Changes may s₀ s) :
    Changes may s₀ (Machine.frameEndWhen comes s) := by
  unfold Machine.frameEndWhen
  split
  · exact Changes.frameEnd hm _ (h.step (.model s.out _))
  · exact h

end

end Sys2Proof.Machine
end

section
/-! The rows of the links, of the reference and of the tally as chains of block changes. -/

namespace Sys2Proof.Machine

section

variable {may : May} {s₀ s : State}

/-! ## The forward lane (R1–R6) -/

theorem Changes.passOn (packet : List Byte) (h : Changes may s₀ s) : Changes may s₀ (s.passOn packet) := h.out _

theorem Changes.closeInput (h : Changes may s₀ s) (ho : s.link.assembly = .open) :
    Changes may s₀ (Machine.closeInput s) :=
  h.step (.input (.close ho))

theorem Changes.takeMarker (seq : BitVec 16) (width height : Nat) (h : Changes may s₀ s) :
    Changes may s₀ (Machine.takeMarker seq width height s) := by
  have hjudged : ∀ t, Changes may s₀ t → t.link.assembly ≠ .open →
      Changes may s₀ (if rasterOk width height then openInput seq width height t else rejectMarker t) := by
    intro t ht hidle
    split
    · exact ht.step (.input (.take seq width height hidle))
    · exact Changes.raise _ (ht.step (.input (.reject hidle)))
  unfold Machine.takeMarker
  split
  · next ho => exact hjudged _ (h.closeInput ho) nofun
  · next hidle => exact hjudged _ h hidle

theorem judgeLine_frame (line count : Nat) (px : List Rgb) (ok : Bool) (s : State) :
    judgeLine line count px ok s =
      { s with link := (judgeLine line count px ok s).link, store := (judgeLine line count px ok s).store } := by
  unfold judgeLine
  split <;> rfl

theorem Changes.takeLine (line count : Nat) (px : List Rgb) (ok : Bool) (h : Changes may s₀ s) :
    Changes may s₀ (Machine.takeLine line count px ok s) := by
  unfold Machine.takeLine
  split
  · next ho =>
    have hjudged : Changes may s₀ (judgeLine line count px ok s) := by
      rw [judgeLine_frame]
      exact h.step (.input (.line line count px ok ho))
    split
    · exact hjudged.closeInput ((judgeLine_assembly line count px ok s).trans ho)
    · exact hjudged
  · exact h

/-! ## The reference (R13–R16) -/

theorem Changes.startOrHold (hm : may.starts) (h : Changes may s₀ s) : Changes may s₀ (Machine.startOrHold s) := by
  unfold Machine.startOrHold
  split
  · exact h.step (.timing _ (.inl rfl))
  · exact h.frameStart hm

theorem Changes.setReference (r : RefState) (h : Changes may s₀ s) : Changes may s₀ (Machine.setReference r s) :=
  h.step (.timing _ (.inl rfl))

/-! ## Chain-port packets (R50, R51, R54) -/

theorem Changes.collect (c : Fin 8) (i : Identity) (h : Changes may s₀ s) : Changes may s₀ (Machine.collect c i s) := by
  unfold Machine.collect
  extract_lets p
  split
  · next hroom => exact h.port c (.collect i hroom)
  · split
    · exact h
    · exact Changes.raise _ (h.port c .overlong)

theorem Changes.takeIdentity (c : Fin 8) (i : Identity) (h : Changes may s₀ s) :
    Changes may s₀ (Machine.takeIdentity c i s) := by
  unfold Machine.takeIdentity
  extract_lets p
  split
  · split
    · next hprobe => exact h.port c (.answered hprobe)
    · exact h.collect c i
    · exact h
    · exact h
    · exact h
  · exact h

theorem Changes.takeReport (c : Fin 8) (position : Nat) (r : TileReport) (h : Changes may s₀ s) :
    Changes may s₀ (Machine.takeReport c position r s) := by
  unfold Machine.takeReport
  extract_lets p
  split
  · split
    · exact h.port c (.report _ r)
    · exact Changes.raise _ h
  · exact h

/-! ## Notices (R175, R176) -/

theorem dueTest_frame (s : State) :
    dueTest s =
      { s with
        events := (dueTest s).events, intake := (dueTest s).intake, ret := (dueTest s).ret
        out := (dueTest s).out } := by
  apply State.eq_of_blocks <;> simp

theorem Changes.dueTest (h : Changes may s₀ s) : Changes may s₀ (Machine.dueTest s) := by
  rw [dueTest_frame]
  exact h.step (.notice .dueTest)

theorem Changes.tryNotice (h : Changes may s₀ s) : Changes may s₀ (Machine.tryNotice s) := by
  rw [tryNotice_frame]
  exact h.step (.notice .tryNotice)

end

end Sys2Proof.Machine
end

section
/-! What each command leaves, as a chain of block changes (R166, Table 10-4). -/

namespace Sys2Proof.Machine

/-! ## The checks (R166)

A property of the state that a command begins on holds of what a check leaves, when it holds of what the rest of the
command leaves where the check is passed. -/

section

variable {P : State → Prop} {s : State} {k : Taken} (hs : P s)
include hs

theorem needLength_keeps {n : Nat} {p : List Byte} (hk : p.length = n → P k.state) : P (needLength n p s k).state := by
  unfold needLength
  split
  · next h => exact hk h
  · exact hs

theorem needCount_keeps {i head size : Nat} {p : List Byte} (hk : P k.state) : P (needCount i head size p s k).state := by
  unfold needCount
  split
  · exact hk
  · exact hs

theorem needUnguarded_keeps (hk : P k.state) : P (needUnguarded s k).state := by
  unfold needUnguarded
  split
  · exact hs
  · exact hk

theorem need_keeps {ok : Bool} {r : Result} (hk : ok = true → P k.state) : P (need ok r s k).state := by
  unfold need
  split
  · next h => exact hk h
  · exact hs

theorem needFields_keeps {α : Type} {o : Option α} {k : α → Taken} (hk : ∀ a, o = some a → P (k a).state) :
    P (needFields o s k).state := by
  cases o with
  | none => exact hs
  | some a => exact hk a rfl

theorem needNotChecking_keeps (hk : s.looks.staged ≠ .checking → P k.state) : P (needNotChecking s k).state :=
  need_keeps hs fun h => hk (by simpa using h)

end

/-! ## The records a command carries -/

theorem u8_lt (p : List Byte) (i : Nat) : u8 p i < 256 := (p.getD i 0).isLt

theorem u16_lt (p : List Byte) (i : Nat) : u16 p i < 65536 := by
  have := u8_lt p i; have := u8_lt p (i + 1); unfold u16; omega

theorem mem_of_readRecords {α : Type} {f : List Byte → Option α} {size n : Nat} {p : List Byte} {as : List α}
    (h : readRecords f size n p = some as) {a : α} (ha : a ∈ as) : ∃ q, f q = some a := by
  obtain ⟨hlen, hget⟩ := readRecords_get h
  obtain ⟨k, hk, rfl⟩ := List.getElem_of_mem ha
  exact ⟨_, (hget k (hlen ▸ hk)).symm.trans (List.getElem?_eq_getElem hk)⟩

theorem readRepeat_ok {p : List Byte} {r : CueRepeat} (h : readRepeat p = some (some r)) :
    r.period ≠ 0 ∧ r.remaining = r.count := by
  unfold readRepeat at h
  split at h
  · split at h
    · simp at h
    · next hperiod => simp only [Option.some.injEq] at h; subst h; exact ⟨hperiod, rfl⟩
  · simp at h

theorem readMasterAction_ok {p : List Byte} {k i : Nat} {m : MasterAction}
    (h : readMasterAction p k i = some (some m)) : m.target ≤ 4096 := by
  unfold readMasterAction at h
  split at h
  · split at h
    · simp at h
    · next htarget => simp only [Option.some.injEq] at h; subst h; simpa using htarget
  · simp at h

theorem readFades_length {p : List Byte} {fades : List FadeAction} (h : readFades p = some fades) : fades.length ≤ 4 := by
  unfold readFades at h
  split at h
  · simp at h
  · next hcount => rw [(readRecords_get h).1]; omega

/-- R117: ADD_CUE reads a cue as R114 admits it. -/
theorem readCue_ok {p : List Byte} {c : Cue} (h : readCue p = some c) : CueOk c := by
  unfold readCue at h
  split at h
  · next trigger rep master fades follow lightMaster htrigger hrep hmaster hfades hfollow hlight =>
    extract_lets cue at h
    split at h
    · next hok =>
      obtain ⟨hid, -, haction⟩ := hok
      obtain rfl : cue = c := Option.some.inj h
      have hid16 : cue.id < 65536 := u16_lt p 0
      refine ⟨by omega, by omega, haction, readFades_length hfades, fun m hm => ?_, fun m hm => ?_, fun r hr => ?_⟩
      · exact readMasterAction_ok (hmaster.trans (congrArg some hm))
      · exact readMasterAction_ok (hlight.trans (congrArg some hm))
      · obtain ⟨hperiod, hremaining⟩ := readRepeat_ok (hrep.trans (congrArg some hr))
        exact ⟨hperiod, by omega⟩
    · simp at h
  · simp at h

theorem followRegionOf_ok {n : Nat} {region : Option Nat} (h : followRegionOf n = some region) :
    ∀ r, region = some r → r ≤ 15 := by
  unfold followRegionOf at h
  rintro r rfl
  split at h
  · next hn => simp only [Option.some.injEq] at h; omega
  · split at h <;> simp at h

/-- R132: WRITE_FIXTURES reads fixtures in range, present and with the attributes of power-on. -/
theorem readFixture_ok {p : List Byte} {x : Fin 96 × Fixture} (h : readFixture p = some x) :
    FixtureOk x.2 ∧ x.2.present = true ∧ x.2.i = Attr.zero ∧ x.2.r = Attr.zero ∧ x.2.g = Attr.zero
      ∧ x.2.b = Attr.zero := by
  unfold readFixture at h
  split at h
  · next kind region hkind hregion =>
    split at h
    · split at h
      · next hok =>
        obtain ⟨hline, hbase, hend, hgain, hrate, hrate'⟩ := hok
        obtain rfl := Option.some.inj h
        exact ⟨⟨hline, hbase, by simp only []; omega, hgain, hrate, hrate', followRegionOf_ok hregion⟩, rfl, rfl, rfl,
          rfl, rfl⟩
      · simp at h
    · simp at h
  · simp at h

/-- R138: SCENE_ENTRIES reads entries in range. -/
theorem readSceneEntry_ok {p : List Byte} {e : SceneEntry} (h : readSceneEntry p = some e) : EntryOk e := by
  have hvalue : ∀ (b : Bool) (i v : Nat), (if b then some (u16 p i) else none) = some v → v ≤ 65535 := by
    intro b i v hv
    have := u16_lt p i
    cases b
    · simp at hv
    · simp only [if_true, Option.some.injEq] at hv; omega
  unfold readSceneEntry at h
  extract_lets m at h
  split at h
  · next hok =>
    obtain ⟨hfixture, -, -⟩ := hok
    obtain rfl := Option.some.inj h
    exact ⟨hfixture, hvalue _ _, hvalue _ _, hvalue _ _, hvalue _ _⟩
  · simp at h

theorem readThermalConfig_derate {p : List Byte} {cfg : ThermalConfig} (h : readThermalConfig p = some cfg) :
    cfg.derate ≤ 4096 := by
  unfold readThermalConfig at h
  split at h
  · split at h
    · next hok =>
      obtain ⟨-, -, -, -, -, hderate, -⟩ := hok
      obtain rfl := Option.some.inj h
      exact hderate
    · simp at h
  · simp at h

theorem readAddresses_eq {p : List Byte} {i j : Intake} (h : readAddresses p i = some j) :
    ∃ a b c mask, j = { i with slot1 := a, slot2 := b, slot3 := c, mask := mask } := by
  unfold readAddresses at h
  split at h
  · exact ⟨_, _, _, _, (Option.some.inj h).symm⟩
  · simp at h

theorem readInputFields_eq {p : List Byte} {st st' : FrameStore} (h : readInputFields p st = some st') :
    ∃ m l a f, st' = { st with missingLimit := m, holdLimit := l, lossAction := a, fill := f } := by
  unfold readInputFields at h
  split at h
  · simp at h
  · split at h
    · exact ⟨_, _, _, _, (Option.some.inj h).symm⟩
    · simp at h

/-! ## What the commands leave -/

section

variable {may : May} {s₀ s : State}

theorem Changes.looks (h : Changes may s₀ s) {l : LookStore} (hl : LookChange s.looks l) :
    Changes may s₀ { s with looks := l } :=
  h.step (.looks hl)

theorem Changes.cues (h : Changes may s₀ s) {c : CueEngine} (hq : QueueChange s.cues.queue c.queue) :
    Changes may s₀ { s with cues := c } :=
  h.step (.cues c hq)

/-- R49, R58, R82: a port that leaves RUN by a command, within a frame or outside. -/
theorem Changes.leaveRun (c : Fin 8) {f : ChainPort → ChainPort} (h : Changes may s₀ s)
    (hr : s.ports[c].state = .run) (hf : PortLeaves s.ports[c] (f s.ports[c])) :
    Changes may s₀ ((Machine.leaveRun c s).modifyPort c f) := by
  unfold Machine.leaveRun
  rw [if_pos hr]
  split
  · next hactive =>
    have hleft := Changes.step (may := may) h (.chains (.leave c (f s.ports[c])
      (demandWithin (Config.pixelsSent s.freeIndex) (lineDemands s.comp s.store.pages c s.ports[c].roster)) hf
      fun hn => absurd hactive hn))
    have e : (dropLimiter c (abandonLines c s)).modifyPort c f
        = { s with
            ports := modifyAt s.ports c fun _ => f s.ports[c]
            power := (dropLimiter c (abandonLines c s)).power
            out := (abandonLines c s).out
            freeIndex := s.freeIndex + 1 } := rfl
    have el : (dropLimiter c (abandonLines c s)).power.limiters = modifyAt s.power.limiters c fun _ =>
        { scale := 0, measured := false
          acc := demandWithin (Config.pixelsSent s.freeIndex) (lineDemands s.comp s.store.pages c s.ports[c].roster) } := by
      ext d hd
      all_goals
        simp only [dropLimiter, abandonLines, keepSent, State.modifyLimiter_power, modifyAt_getElem]
        split <;> simp_all
    have ep : (dropLimiter c (abandonLines c s)).power = { s.power with limiters := (dropLimiter c (abandonLines c s)).power.limiters } := rfl
    rw [e, ep, el]
    exact hleft.step (.model _ _)
  · exact h.leave c hf

theorem Changes.configureChain (c : Fin 8) (cfg : ChainConfig) (h : Changes may s₀ s) :
    Changes may s₀ (Machine.configureChain c cfg s) := by
  unfold Machine.configureChain
  split
  · next henable => exact h.port c (.configure cfg (.inl henable))
  · next hdisable =>
    by_cases hr : s.ports[c].state = .run
    · exact h.leaveRun c hr (.disable cfg (by simpa using hdisable) hr)
    · rw [(leaveRun_power c s).2.2.2.2 hr]
      exact h.port c (.configure cfg (.inr hr))

theorem Changes.restartChain (c : Fin 8) (h : Changes may s₀ s) :
    Changes may s₀ ((Machine.leaveRun c s).modifyPort c ChainPort.restart) := by
  by_cases hr : s.ports[c].state = .run
  · exact h.leaveRun c hr .restart
  · rw [(leaveRun_power c s).2.2.2.2 hr]
    exact h.port c (.restart hr)

theorem Changes.placeCue {c : Cue} (h : Changes may s₀ s) (hc : CueOk c) (hroom : s.cues.queue.length < 32)
    (hnew : ∀ d ∈ s.cues.queue, d.id ≠ c.id) : Changes may s₀ (Machine.placeCue c s).state := by
  unfold Machine.placeCue
  split
  · exact Changes.raise _ (h.cues (c := { s.cues with queue := s.cues.queue ++ [{ c with trigger := .next }] })
      (.append { c with trigger := .next } hroom hnew hc))
  · exact h.cues (c := { s.cues with queue := s.cues.queue ++ [c] }) (.append c hroom hnew hc)

theorem Changes.clearFaults (h : Changes may s₀ s) : Changes may s₀ (Machine.clearFaults s) :=
  (h.ports fun _ => .clearFault).step (.thermal .clearFaults)

theorem Changes.appendEntries (x : Fin 64) {entries : List SceneEntry} (h : Changes may s₀ s)
    (ha : SceneChange (poolFree s.lights.scenes + s.lights.scenes[x].counted) s.lights.scenes[x]
      (s.lights.scenes[x].append entries)) :
    Changes may s₀ (Machine.appendEntries x entries s).state :=
  Changes.raiseWhen _ _ (h.step (.lights (.scene x _ ha)))

/-! ## The resets (R171) -/

theorem Changes.resetCommon (hclear : ∀ set, may.clears set) (h : Changes may s₀ s) :
    Changes may s₀ (Machine.resetCommon s) := by
  have hcounters : Changes may s₀ (clearCounters s) := h.step (.clearAll hclear)
  have hintake := hcounters.step (.notice .emptyIntake)
  have hcues := hintake.cues (c := (clearCounters s).cues.reset) (.sublist _ (List.nil_sublist _))
  have hramp := hcues.step (.master .freeze)
  exact hramp.step (.notice .reset)

theorem Changes.lightsSoftReset (h : Changes may s₀ s) : Changes may s₀ { s with lights := s.lights.softReset } :=
  (h.step (.lights .freezeFades)).step (.lightMaster .freeze)

theorem Changes.lightsTablesReset (h : Changes may s₀ s) :
    Changes may s₀
      { s with lights := s.lights.tablesReset, follow := { s.follow with values := Vector.replicate 96 (Rgb.all 0) } } :=
  (h.step (.lights .clear)).step (.lightMaster .freeze)

theorem Changes.softReset (hclear : ∀ set, may.clears set) (h : Changes may s₀ s) : Changes may s₀ (Machine.softReset s) :=
  Changes.lightsSoftReset (Changes.looks (Changes.resetCommon hclear h) .softReset)

theorem Changes.tablesReset (hclear : ∀ set, may.clears set) (h : Changes may s₀ s) :
    Changes may s₀ (Machine.tablesReset s) :=
  Changes.lightsTablesReset (Changes.looks (Changes.resetCommon hclear h) .tablesReset)

end

end Sys2Proof.Machine
end

section
/-! Every row, and every step, by what it can make of the state (00 section 4). -/

namespace Sys2Proof.Machine

/-! ## What a row can do -/

/-- All that a row can make of the state. -/
inductive RowStep (may : May) (s : State) : State → Prop
  | changes {t : State} (h : Changes may s t) : RowStep may s t
  | waits (hd : s.intake.headDirect = true) (hf : s.ret.free = 0) : RowStep may s (s.setExecutor .waiting)
  | command {e : Entry} {rest : List Entry} {k : Taken} (ht : Takes s e rest)
      (h : Changes may (beginCommand e rest s) k.state) : RowStep may s (answer e k)
  | margin (body : List Byte) : RowStep may s (takeMargin body s)
  | pass (bytes : List Byte) (h : s.ret.pass.length < 16) : RowStep may s (appendPass bytes s)
  | drop : RowStep may s { s with ret := { s.ret with drops := s.ret.drops.inc } }
  | sent (h : s.ret.sending.isSome = true) : RowStep may s (completeSend s)
  | powerOn (h : ∀ set, may.clears set) : RowStep may s (powerOnReset s)

section

variable {may : May} {s t : State}

theorem RowStep.of_eq {u : State} (hu : RowStep may s u) (h : (.next u : Host.Outcome State Fault Refusal) = .next t) :
    RowStep may s t :=
  Host.Outcome.next.inj h ▸ hu

theorem RowStep.of_changes {u : State} (hu : Changes may s u)
    (h : (.next u : Host.Outcome State Fault Refusal) = .next t) : RowStep may s t :=
  .of_eq (.changes hu) h

theorem headDirect_of_queue {i : Intake} {e : Entry} {rest : List Entry} (h : i.queue = e :: rest)
    (hd : e.kind = .direct) : i.headDirect = true := by
  simp [Intake.headDirect, h, hd]

/-- R165: a command row does nothing, waits, or takes its command and answers it. -/
theorem RowStep.of_command {accepts : Entry → Bool} {run : List Byte → State → Taken}
    (hrun : ∀ e rest, Takes s e rest → accepts e = true →
      Changes may (beginCommand e rest s) (run e.payload (beginCommand e rest s)).state)
    (h : takeCommand accepts run s = .next t) : RowStep may s t := by
  obtain rfl | ⟨e, rest, hq, hd, hf, rfl⟩ | ⟨e, rest, ht, ha, rfl⟩ := takeCommand_cases h
  · exact .changes .refl
  · exact .waits (headDirect_of_queue hq hd) hf
  · exact .command ht (hrun e rest ht ha)

/-- R165: a command row whose command leaves a chain of changes whatever state it begins on. -/
theorem RowStep.of_code {code : Byte} {run : List Byte → State → Taken} (h : takeCode code run s = .next t)
    (hrun : ∀ p s, Changes may s (run p s).state) : RowStep may s t :=
  .of_command (fun e rest _ _ => hrun e.payload (beginCommand e rest s)) h

/-! ## The rows of the links and of the frame events -/

theorem takeForward_row (bytes : List Byte) : RowStep may s (takeForward bytes s) := by
  unfold takeForward
  split
  · exact .changes (Changes.takeMarker _ _ _ (Changes.passOn _ .refl))
  · split
    · exact .changes (Changes.takeLine _ _ _ _ (Changes.passOn _ .refl))
    · split
      · exact .margin _
      · exact .changes (Changes.passOn _ .refl)

theorem checkCompletion_row : RowStep may s (if s.looks.staged = .checking then completeCheck s else s) := by
  split
  · next hc => exact .changes (Changes.completeCheck .refl hc)
  · exact .changes .refl

theorem frameStartIf_row (hm : may.starts) (b : Bool) : RowStep may s (if b then frameStart s else s) := by
  split
  · exact .changes (Changes.frameStart hm .refl)
  · exact .changes .refl

theorem outputFrameEnd_row (hm : may.starts) (order : FrameEndOrder) :
    RowStep may s (if s.timing.phase = .active then frameEnd order s else s) := by
  split
  · exact .changes (Changes.frameEnd hm order .refl)
  · exact .changes .refl

theorem refLossTimeout_row (hm : may.starts) :
    RowStep may s (if s.timing.ref = .locked then startOrHold (raise .refLoss (setReference .lost s)) else s) := by
  split
  · exact .changes (Changes.startOrHold hm (Changes.raise _ (Changes.setReference _ .refl)))
  · exact .changes .refl

theorem passPacketArrival_row (bytes : List Byte) :
    RowStep may s
      (if s.ret.pass.length < Config.passSize then appendPass bytes s
       else { s with ret := { s.ret with drops := s.ret.drops.inc } }) := by
  split
  · next hroom => exact .pass bytes hroom
  · exact .drop

theorem sendCompletion_row : RowStep may s (if s.ret.sending.isSome then completeSend s else s) := by
  split
  · next h => exact .sent h
  · exact .changes .refl

/-! ## The command rows -/

theorem execReadIdentity_row (h : execReadIdentity s = .next t) : RowStep may s t :=
  .of_code h fun _ _ => needLength_keeps .refl fun _ => .refl

theorem execReadStatus_row (h : execReadStatus s = .next t) : RowStep may s t :=
  .of_code h fun _ _ => needLength_keeps .refl fun _ => .refl

theorem execReadInput_row (h : execReadInput s = .next t) : RowStep may s t :=
  .of_code h fun _ _ => needLength_keeps .refl fun _ => .refl

theorem execReadThermal_row (h : execReadThermal s = .next t) : RowStep may s t :=
  .of_code h fun _ _ => needLength_keeps .refl fun _ => .refl

theorem writeStaged_changes (look : Look) (s : State) (h : s.looks.staged ≠ .checking) :
    Changes may s (writeStaged look s).state :=
  Changes.looks .refl (.write look h)

theorem execUnknownCommand_row (h : execUnknownCommand s = .next t) : RowStep may s t :=
  .of_command (fun _ _ _ _ => .refl) h

theorem execSetAddresses_row (h : execSetAddresses s = .next t) : RowStep may s t :=
  .of_code h fun p s => needLength_keeps .refl fun _ => needFields_keeps .refl fun i hi => by
    obtain ⟨a, b, c, mask, rfl⟩ := readAddresses_eq hi
    exact .single (.notice (.addresses a b c mask))

theorem execSetInput_row (h : execSetInput s = .next t) : RowStep may s t :=
  .of_code h fun p s => needLength_keeps .refl fun _ => needUnguarded_keeps .refl <| needFields_keeps .refl fun st hst => by
    obtain ⟨m, l, a, f, rfl⟩ := readInputFields_eq hst
    exact Changes.store .refl (.settings _ rfl rfl rfl)

theorem execSetOutput_row (h : execSetOutput s = .next t) : RowStep may s t :=
  .of_code h fun _ _ => needLength_keeps .refl fun _ => needUnguarded_keeps .refl <| need_keeps .refl fun _ =>
    .single (.timing _ (.inl rfl))

theorem execWriteTiles_row (h : execWriteTiles s = .next t) : RowStep may s t :=
  .of_code h fun _ _ => needCount_keeps .refl <| need_keeps .refl fun _ => needFields_keeps .refl fun _ _ =>
    needNotChecking_keeps .refl fun hn => writeStaged_changes _ _ hn

theorem execWriteProfiles_row (h : execWriteProfiles s = .next t) : RowStep may s t :=
  .of_code h fun _ _ => needCount_keeps .refl <| need_keeps .refl fun _ => needFields_keeps .refl fun _ _ =>
    needNotChecking_keeps .refl fun hn => writeStaged_changes _ _ hn

theorem execWriteCurve_row (h : execWriteCurve s = .next t) : RowStep may s t :=
  .of_code h fun _ _ => needLength_keeps .refl fun _ => need_keeps .refl fun _ =>
    needNotChecking_keeps .refl fun hn => writeStaged_changes _ _ hn

theorem execWriteRegions_row (h : execWriteRegions s = .next t) : RowStep may s t :=
  .of_code h fun _ _ => needCount_keeps .refl <| need_keeps .refl fun _ => needFields_keeps .refl fun _ _ =>
    needNotChecking_keeps .refl fun hn => writeStaged_changes _ _ hn

theorem execSetLookFields_row (h : execSetLookFields s = .next t) : RowStep may s t :=
  .of_code h fun _ _ => needLength_keeps .refl fun _ => needFields_keeps .refl fun _ _ =>
    needNotChecking_keeps .refl fun hn => writeStaged_changes _ _ hn

theorem execClearStaged_row (h : execClearStaged s = .next t) : RowStep may s t :=
  .of_code h fun _ _ => needLength_keeps .refl fun _ =>
    needNotChecking_keeps .refl fun hn => writeStaged_changes _ _ hn

theorem execCopyActive_row (h : execCopyActive s = .next t) : RowStep may s t :=
  .of_code h fun _ _ => needLength_keeps .refl fun _ => needNotChecking_keeps .refl fun hn => Changes.looks .refl (.copy hn)

theorem execCheckLook_row (h : execCheckLook s = .next t) : RowStep may s t :=
  .of_code h fun _ _ => needLength_keeps .refl fun _ =>
    needNotChecking_keeps .refl fun hn => Changes.looks .refl (.beginCheck hn)

theorem execReadLook_row (h : execReadLook s = .next t) : RowStep may s t :=
  .of_code h fun _ _ => needLength_keeps .refl fun _ => needFields_keeps .refl fun _ _ => .refl

theorem execWriteTileType_row (h : execWriteTileType s = .next t) : RowStep may s t :=
  .of_code h fun p s => needLength_keeps .refl fun _ => needUnguarded_keeps .refl <| need_keeps .refl fun _ =>
    needFields_keeps .refl fun entry _ => need_keeps .refl fun hfree =>
      Changes.looks .refl (.tileType (u8 p 0) entry (by simpa using hfree))

theorem execSetChain_row (h : execSetChain s = .next t) : RowStep may s t :=
  .of_code h fun _ _ => needLength_keeps .refl fun _ => needUnguarded_keeps .refl <| needFields_keeps .refl fun x _ =>
    Changes.configureChain x.1 x.2 .refl

theorem execRestartChain_row (h : execRestartChain s = .next t) : RowStep may s t :=
  .of_code h fun _ _ => needLength_keeps .refl fun _ => needUnguarded_keeps .refl <| needFields_keeps .refl fun c _ =>
    need_keeps .refl fun _ => Changes.restartChain c .refl

theorem execReadRoster_row (h : execReadRoster s = .next t) : RowStep may s t :=
  .of_code h fun _ _ => needLength_keeps .refl fun _ => needFields_keeps .refl fun _ _ => .refl

theorem execSetMaster_row (h : execSetMaster s = .next t) : RowStep may s t :=
  .of_code h fun p s => needLength_keeps .refl fun _ => need_keeps .refl fun hle =>
    .single (.master (.begin _ _ (.inl (by simpa using hle))))

theorem execSetThermal_row (h : execSetThermal s = .next t) : RowStep may s t :=
  .of_code h fun _ _ => needLength_keeps .refl fun _ => needFields_keeps .refl fun cfg hcfg =>
    .single (.thermal (.config cfg (readThermalConfig_derate hcfg)))

theorem execAddCue_row (h : execAddCue s = .next t) : RowStep may s t :=
  .of_code h fun p s => needLength_keeps .refl fun _ => needFields_keeps .refl fun c hc => need_keeps .refl fun _ =>
    need_keeps .refl fun hroom => need_keeps .refl fun hnew =>
      Changes.placeCue .refl (readCue_ok hc) (by simpa [Config.cueSize] using hroom) (by simpa [hasCue] using hnew)

theorem execCancelCue_row (h : execCancelCue s = .next t) : RowStep may s t :=
  .of_code h fun _ _ => needLength_keeps .refl fun _ => need_keeps .refl fun _ => need_keeps .refl fun _ =>
    Changes.cues .refl (.sublist _ List.filter_sublist)

theorem execClearCues_row (h : execClearCues s = .next t) : RowStep may s t :=
  .of_code h fun _ _ => needLength_keeps .refl fun _ => needUnguarded_keeps .refl <|
    Changes.cues .refl (.sublist _ (List.nil_sublist _))

theorem execReadCues_row (h : execReadCues s = .next t) : RowStep may s t :=
  .of_code h fun _ _ => needLength_keeps .refl fun _ => need_keeps .refl fun _ => .refl

theorem execSetGuard_row (h : execSetGuard s = .next t) : RowStep may s t :=
  .of_code h fun _ _ => needLength_keeps .refl fun _ => needFields_keeps .refl fun _ _ =>
    Changes.cues .refl (.sublist _ (List.Sublist.refl _))

theorem execWriteFixtures_row (h : execWriteFixtures s = .next t) : RowStep may s t :=
  .of_code h fun p s => needCount_keeps .refl <| needUnguarded_keeps .refl <| need_keeps .refl fun _ =>
    needFields_keeps .refl fun records hrecords => need_keeps .refl fun hnodup => need_keeps .refl fun hfree =>
      .single (.lights (.write records
        (fun x hx => by obtain ⟨q, hq⟩ := mem_of_readRecords hrecords hx; exact readFixture_ok hq)
        (by simpa using hnodup) (by simpa using hfree)))

theorem execDeleteFixture_row (h : execDeleteFixture s = .next t) : RowStep may s t :=
  .of_code h fun _ _ => needLength_keeps .refl fun _ => needUnguarded_keeps .refl <| needFields_keeps .refl fun x _ =>
    need_keeps .refl fun _ => .single (.lights (.delete x))

theorem execBeginScene_row (h : execBeginScene s = .next t) : RowStep may s t :=
  .of_code h fun p s => needLength_keeps .refl fun _ => needFields_keeps .refl fun x hx => need_keeps .refl fun _ =>
    need_keeps .refl fun hroom => by
      split at hx
      · next hcount => exact .single (.lights (.scene x _ (.begin _ hcount.1 hcount.2 (by simpa using hroom))))
      · simp at hx

theorem execSceneEntries_row (h : execSceneEntries s = .next t) : RowStep may s t :=
  .of_code h fun p s => needCount_keeps .refl <| need_keeps .refl fun hcount => needFields_keeps .refl fun x _ =>
    needFields_keeps .refl fun entries hentries => need_keeps .refl fun hbuilding => need_keeps .refl fun hroom =>
      need_keeps .refl fun hnew => Changes.appendEntries x .refl
        (.append entries hbuilding
          (fun h0 => by
            have hlen := (readRecords_get hentries).1
            simp only [h0, List.length_nil] at hlen
            simp [← hlen] at hcount)
          (by simpa using hroom) (by simpa using hnew)
          fun e he => by obtain ⟨q, hq⟩ := mem_of_readRecords hentries he; exact readSceneEntry_ok hq)

theorem execDeleteScene_row (h : execDeleteScene s = .next t) : RowStep may s t :=
  .of_code h fun _ _ => needLength_keeps .refl fun _ => needFields_keeps .refl fun x _ =>
    .single (.lights (.scene x .empty .delete))

theorem execSetLightMaster_row (h : execSetLightMaster s = .next t) : RowStep may s t :=
  .of_code h fun p s => needLength_keeps .refl fun _ => need_keeps .refl fun hle =>
    .single (.lightMaster (.begin _ _ (.inl (by simpa using hle))))

theorem execReadFixtures_row (h : execReadFixtures s = .next t) : RowStep may s t :=
  .of_code h fun _ _ => needLength_keeps .refl fun _ => need_keeps .refl fun _ => .refl

theorem execReadScene_row (h : execReadScene s = .next t) : RowStep may s t :=
  .of_code h fun _ _ => needLength_keeps .refl fun _ => needFields_keeps .refl fun _ _ => .refl

theorem execSetLine_row (h : execSetLine s = .next t) : RowStep may s t :=
  .of_code h fun _ _ => needLength_keeps .refl fun _ => needUnguarded_keeps .refl <| needFields_keeps .refl fun _ _ =>
    Changes.follow .refl rfl

theorem execReadFollow_row (h : execReadFollow s = .next t) : RowStep may s t :=
  .of_code h fun _ _ => needLength_keeps .refl fun _ => need_keeps .refl fun _ => .refl

theorem Changes.clearFlags {s₀ : State} (h : Changes may s₀ s) (flags : BitVec 24) :
    Changes may s₀ { s with events := { s.events with flags := flags } } :=
  h.step (.notice (.clearFlags flags))

theorem execClearEvents_row (h : execClearEvents s = .next t) : RowStep may s t :=
  .of_code h fun _ _ => needLength_keeps .refl fun _ => Changes.clearFlags .refl _

theorem execSetNotice_row (h : execSetNotice s = .next t) : RowStep may s t :=
  .of_code h fun p s => needLength_keeps .refl fun _ => need_keeps .refl fun hrange => needFields_keeps .refl fun e _ => by
    simp only [Bool.and_eq_true, bne_iff_ne, decide_eq_true_eq] at hrange
    obtain ⟨⟨hcount, hcount'⟩, hframes⟩ := hrange
    have := u8_lt p 8
    have hset : Change may s _ := .notice (.thresholds e (u8 p 7) (u8 p 8) ⟨by omega, hcount'⟩ ⟨by omega, by omega⟩)
    show Changes may s (dueTest _)
    rw [dueTest_frame]
    exact .single hset

theorem execClearFaults_row (h : execClearFaults s = .next t) : RowStep may s t :=
  .of_code h fun _ _ => needLength_keeps .refl fun _ => Changes.clearFaults .refl

/-- R171: RESET_UNIT clears every counter. -/
theorem resetUnit_changes (hclear : ∀ set, may.clears set) (p : List Byte) (s : State) :
    Changes may s (resetUnit p s).state :=
  needLength_keeps .refl fun _ => needUnguarded_keeps .refl <| by
    split
    · exact Changes.softReset hclear .refl
    · exact Changes.tablesReset hclear .refl
    · exact .refl

/-- R179: READ_COUNTERS clears the set it names, where its payload says so. -/
theorem readCounters_changes {p : List Byte}
    (hclear : ∀ set, p.length = 3 → readCounterSet p = some set → readYesNo p 2 = some true → may.clears set) (s : State) :
    Changes may s
      (needLength 3 p s <| needFields (readCounterSet p) s fun set => needFields (readYesNo p 2) s fun clear =>
        report ((countersOf s set).flatMap Counter.bytes) (if clear then clearSet s set else s)).state := by
  refine needLength_keeps .refl fun hlen => needFields_keeps .refl fun set hset => needFields_keeps .refl fun b hb => ?_
  cases b
  · exact .refl
  · exact .single (.clear set (hclear set hlen hset hb))

theorem execReadCounters_row
    (hclear : ∀ e set, s.intake.queue.head? = some e → e.code = 0x7B → e.payload.length = 3 →
      readCounterSet e.payload = some set → readYesNo e.payload 2 = some true → may.clears set)
    (h : execReadCounters s = .next t) : RowStep may s t := by
  unfold execReadCounters takeCode at h
  refine RowStep.of_command (fun e rest ht hcode => ?_) h
  have hhead : s.intake.queue.head? = some e := by rw [ht.1]; rfl
  exact readCounters_changes (fun set => hclear e set hhead (eq_of_beq hcode)) _

end

/-! ## Every row -/

/-- R179: the payload of a READ_COUNTERS that clears a set. -/
def ClearingPayload (set : CounterSet) (p : List Byte) : Prop :=
  match set with
  | .input => ∃ b, p = [0, b, 1]
  | .intake => ∃ b, p = [1, b, 1]
  | .chain c => p = [2, BitVec.ofNat 8 c.val, 1]

/-- R171, R179, R180: the counter sets a row can clear. -/
def RowClears (i : Instr) (s : State) (set : CounterSet) : Prop :=
  i = .powerOnReset ∨ i = .softReset ∨ i = .tablesReset
    ∨ i = .readCounters ∧ ∃ e, s.intake.queue.head? = some e ∧ e.code = 0x7B ∧ ClearingPayload set e.payload

theorem readYesNo_eq_true {p : List Byte} {i : Nat} (h : readYesNo p i = some true) : u8 p i = 1 := by
  rw [readYesNo_eq] at h
  split at h
  · simpa using h
  · simp at h

theorem clearingPayload_of_read {p : List Byte} {set : CounterSet} (hlen : p.length = 3)
    (hset : readCounterSet p = some set) (hclear : readYesNo p 2 = some true) : ClearingPayload set p := by
  obtain ⟨a, b, c, rfl⟩ := List.length_eq_three.mp hlen
  have hc : c = 1 := BitVec.eq_of_toNat_eq (readYesNo_eq_true hclear)
  have ha : ∀ n < 256, u8 [a, b, c] 0 = n → a = BitVec.ofNat 8 n := fun n hn h =>
    BitVec.eq_of_toNat_eq (by rw [BitVec.toNat_ofNat, Nat.mod_eq_of_lt hn]; exact h)
  subst hc
  unfold readCounterSet at hset
  split at hset
  · next h0 =>
    obtain rfl := Option.some.inj hset
    exact ⟨b, congrArg (fun x => [x, b, 1]) (ha 0 (by omega) h0)⟩
  · next h1 =>
    obtain rfl := Option.some.inj hset
    exact ⟨b, congrArg (fun x => [x, b, 1]) (ha 1 (by omega) h1)⟩
  · next h2 =>
    split at hset
    · obtain rfl := Option.some.inj hset
      have hb : b = BitVec.ofNat 8 (u8 [a, b, 1] 1) := BitVec.eq_of_toNat_eq (by simp [u8])
      show [a, b, 1] = _
      rw [ha 2 (by omega) h2]
      exact congrArg (fun x => [2, x, 1]) hb
    · simp at hset
  · simp at hset

/-- Table 1-7, log 4: the rows that stand for a frame event or a change of the reference, which may take a frame start. -/
def RowStarts : Instr → Prop
  | .refPulse | .refLossTimeout | .outputFrameStart | .outputFrameEnd _ | .inputLoss | .tileSilent .. | .chainFailed _
  | .holdoffExpiry _ | .zoneWarm _ | .zoneHot _ | .zoneShutdown _ | .zoneStepDown _ | .zoneShutdownExit _ => True
  | _ => False

/-- What a row may do beside the other operations. -/
def rowMay (i : Instr) (s : State) : May := { clears := RowClears i s, starts := RowStarts i }

/-- 00 section 4: every row, by what it can make of the state. -/
theorem exec_row {i : Instr} {s t : State} (h : exec i s = .next t) : RowStep (rowMay i s) s t := by
  cases i with
  | powerOnReset => exact .of_eq (.powerOn fun _ => .inl rfl) h
  | frameStartMarker seq width height => exact .of_changes (Changes.takeMarker _ _ _ (Changes.passOn _ .refl)) h
  | linePacket line count pixels check => exact .of_changes (Changes.takeLine _ _ _ _ (Changes.passOn _ .refl)) h
  | marginPacket body => exact .of_eq (.margin body) h
  | unknownForwardPacket bytes => exact .of_eq (takeForward_row bytes) h
  | refPulse => exact .of_changes (Changes.startOrHold trivial (Changes.raiseWhen _ _ (Changes.setReference _ .refl))) h
  | refLossTimeout => exact .of_eq (refLossTimeout_row trivial) h
  | outputFrameStart => exact .of_eq (frameStartIf_row trivial _) h
  | outputFrameEnd order => exact .of_eq (outputFrameEnd_row trivial order) h
  | inputLoss => exact .of_eq (frameStartIf_row trivial _) h
  | tileSilent chain position => exact .of_changes (Changes.frameEndWhen trivial _ .refl) h
  | chainFailed chain => exact .of_changes (Changes.frameEndWhen trivial _ .refl) h
  | holdoffExpiry chain => exact .of_changes (Changes.frameEndWhen trivial _ .refl) h
  | zoneWarm zone => exact .of_changes (Changes.frameEndWhen trivial _ .refl) h
  | zoneHot zone => exact .of_changes (Changes.frameEndWhen trivial _ .refl) h
  | zoneShutdown zone => exact .of_changes (Changes.frameEndWhen trivial _ .refl) h
  | zoneStepDown zone => exact .of_changes (Changes.frameEndWhen trivial _ .refl) h
  | zoneShutdownExit zone => exact .of_changes (Changes.frameEndWhen trivial _ .refl) h
  | noticeDue => exact .of_changes (Changes.dueTest .refl) h
  | noticeQueued => exact .of_changes (Changes.tryNotice .refl) h
  | tallyRisingEdge =>
    exact .of_changes ((Changes.cues (.single (.tally true)) .markEdges)) h
  | tallyFallingEdge => exact .of_changes (.single (.tally false)) h
  | checkCompletion => exact .of_eq checkCompletion_row h
  | identityArrival chain bytes =>
    refine .of_eq ?_ h
    split
    · exact .changes (Changes.takeIdentity _ _ .refl)
    · exact .changes .refl
  | tileReportArrival chain bytes =>
    refine .of_eq ?_ h
    split
    · exact .changes (Changes.takeReport _ _ _ .refl)
    · exact .changes .refl
  | passPacketArrival bytes => exact .of_eq (passPacketArrival_row bytes) h
  | sendCompletion => exact .of_eq sendCompletion_row h
  | unknownCommand => exact execUnknownCommand_row h
  | readIdentity => exact execReadIdentity_row h
  | readStatus => exact execReadStatus_row h
  | setAddresses => exact execSetAddresses_row h
  | softReset => exact .of_command (fun e rest _ _ => resetUnit_changes (may := rowMay .softReset s) (fun _ => Or.inr (Or.inl rfl)) _ _) h
  | tablesReset => exact .of_command (fun e rest _ _ => resetUnit_changes (may := rowMay .tablesReset s) (fun _ => Or.inr (Or.inr (Or.inl rfl))) _ _) h
  | setInput => exact execSetInput_row h
  | setOutput => exact execSetOutput_row h
  | readInput => exact execReadInput_row h
  | writeTiles => exact execWriteTiles_row h
  | writeProfiles => exact execWriteProfiles_row h
  | writeCurve => exact execWriteCurve_row h
  | writeRegions => exact execWriteRegions_row h
  | setLookFields => exact execSetLookFields_row h
  | clearStaged => exact execClearStaged_row h
  | copyActive => exact execCopyActive_row h
  | checkLook => exact execCheckLook_row h
  | readLook => exact execReadLook_row h
  | writeTileType => exact execWriteTileType_row h
  | setChain => exact execSetChain_row h
  | restartChain => exact execRestartChain_row h
  | readRoster => exact execReadRoster_row h
  | setMaster => exact execSetMaster_row h
  | setThermal => exact execSetThermal_row h
  | readThermal => exact execReadThermal_row h
  | addCue => exact execAddCue_row h
  | cancelCue => exact execCancelCue_row h
  | clearCues => exact execClearCues_row h
  | readCues => exact execReadCues_row h
  | setGuard => exact execSetGuard_row h
  | writeFixtures => exact execWriteFixtures_row h
  | deleteFixture => exact execDeleteFixture_row h
  | beginScene => exact execBeginScene_row h
  | sceneEntries => exact execSceneEntries_row h
  | deleteScene => exact execDeleteScene_row h
  | setLightMaster => exact execSetLightMaster_row h
  | readFixtures => exact execReadFixtures_row h
  | readScene => exact execReadScene_row h
  | setLine => exact execSetLine_row h
  | readFollow => exact execReadFollow_row h
  | clearEvents => exact execClearEvents_row h
  | setNotice => exact execSetNotice_row h
  | clearFaults => exact execClearFaults_row h
  | readCounters =>
    exact execReadCounters_row
      (fun e set hhead hcode hlen hset hb =>
        .inr (.inr (.inr ⟨rfl, e, hhead, hcode, clearingPayload_of_read hlen hset hb⟩))) h

/-- A step runs the front row on the state with the queue's rest, or leaves the state as it is. -/
theorem step_cases {s t : State} (h : step s = .next t) :
    (s.pending = [] ∧ t = s)
      ∨ ∃ i rest, s.pending = i :: rest ∧ exec i (s.setPending rest) = .next t := by
  unfold step at h
  split at h
  · next hp => exact .inl ⟨hp, (Host.Outcome.next.inj h).symm⟩
  · next i rest hp => exact .inr ⟨i, rest, hp, h⟩

end Sys2Proof.Machine
end

section
/-! A law that every block change keeps, every step keeps; and the laws of the state after reset. -/

namespace Sys2Proof.Machine

/-! ## Properties of the blocks beside the queues -/

/-- R169: the state after a send has completed and the arbiter has started the next one. -/
def nextSend (s : State) : State := startSend { s with ret := { s.ret with sending := none } }

theorem completeSend_cases (s : State) :
    (slotContested s.intake = true ∧ completeSend s = nextSend s)
      ∨ (slotContested s.intake = false ∧ completeSend s = tryNotice (nextSend s)) := by
  have hintake : (nextSend s).intake = s.intake := by simp [nextSend]
  have e : completeSend s = if slotContested (nextSend s).intake then nextSend s else tryNotice (nextSend s) := rfl
  rw [e, hintake]
  cases slotContested s.intake
  · exact .inr ⟨rfl, rfl⟩
  · exact .inl ⟨rfl, rfl⟩

section

variable {P : State → Prop}
  (hq : ∀ (s : State) i r e o n p, P s →
    P { s with intake := i, ret := r, events := e, out := o, freeIndex := n, pending := p })
include hq

theorem setExecutor_keeps (x : ExecutorState) {s : State} (h : P s) : P (s.setExecutor x) :=
  hq s { s.intake with executor := x } s.ret s.events s.out s.freeIndex s.pending h

theorem lookIntake_keeps {s : State} (h : P s) : P (lookIntake s) := by
  obtain ⟨e, -⟩ | ⟨-, -, e⟩ := lookIntake_cases s <;> rw [e]
  · exact h
  · exact setExecutor_keeps hq _ h

theorem startSend_keeps {s : State} (h : P s) : P (startSend s) := by
  obtain ⟨e, -⟩ | ⟨p, own, -, -, -, e⟩ | ⟨q, pass, -, -, -, e⟩ := startSend_cases s <;> rw [e]
  · exact h
  · exact hq s s.intake _ s.events _ s.freeIndex s.pending h
  · exact hq s s.intake _ s.events _ s.freeIndex s.pending h

theorem placeOwn_keeps (p : ReturnPacket) {s : State} (h : P s) : P (placeOwn p s) :=
  lookIntake_keeps hq (startSend_keeps hq (hq s s.intake _ s.events s.out s.freeIndex s.pending h))

theorem tryNotice_keeps {s : State} (h : P s) : P (tryNotice s) := by
  unfold tryNotice
  split
  · exact placeOwn_keeps hq _ (hq s s.intake s.ret _ s.out s.freeIndex s.pending h)
  · exact h

theorem passOn_keeps (packet : List Byte) {s : State} (h : P s) : P (s.passOn packet) :=
  hq s s.intake s.ret s.events _ s.freeIndex s.pending h

theorem offer_keeps (e : Entry) {s : State} (h : P s) : P (offer e s) := by
  have hcount : ∀ i, P { s with intake := i } := fun i => hq s i s.ret s.events s.out s.freeIndex s.pending h
  unfold offer
  split
  · exact lookIntake_keeps hq (hcount _)
  · split
    · unfold replyFull
      split
      · exact hcount _
      · exact placeOwn_keeps hq _ h
    · exact hcount _
    · exact hcount _

theorem takeMargin_keeps (body : List Byte) {s : State} (h : P s) : P (takeMargin body s) := by
  have hcount : ∀ i, P { s with intake := i } := fun i => hq s i s.ret s.events s.out s.freeIndex s.pending h
  unfold takeMargin
  split
  · exact passOn_keeps hq _ (hcount _)
  · exact passOn_keeps hq _ (hcount _)
  · exact passOn_keeps hq _ (hcount _)
  · unfold routeMargin
    split
    · exact passOn_keeps hq _ h
    · exact offer_keeps hq _ h
    · exact offer_keeps hq _ (passOn_keeps hq _ h)
    · exact offer_keeps hq _ (passOn_keeps hq _ h)

theorem completeSend_keeps {s : State} (h : P s) : P (completeSend s) := by
  have hsent : P (nextSend s) := startSend_keeps hq
    (hq s s.intake { s.ret with sending := none } s.events s.out s.freeIndex s.pending h)
  obtain ⟨-, e⟩ | ⟨-, e⟩ := completeSend_cases s <;> rw [e]
  · exact hsent
  · exact tryNotice_keeps hq hsent

theorem answer_keeps (e : Entry) {k : Taken} (h : P k.state) : P (answer e k) := by
  unfold answer
  split
  · exact placeOwn_keeps hq _ (hq k.state k.state.intake _ k.state.events k.state.out k.state.freeIndex k.state.pending h)
  · exact lookIntake_keeps hq h

variable (hchange : ∀ {may s t}, Change may s t → P s → P t)
include hchange

omit hq in
theorem Changes.keeps {may : May} {s t : State} (h : Changes may s t) (hs : P s) : P t := by
  induction h with
  | refl => exact hs
  | tail _ hc ih => exact hchange hc ih

variable (hreset : ∀ pins, P (State.powerOn pins))
include hreset

theorem RowStep.keeps {may : May} {s t : State} (h : RowStep may s t) (hs : P s) : P t := by
  cases h with
  | changes h => exact Changes.keeps hchange h hs
  | waits _ _ => exact setExecutor_keeps hq _ hs
  | command ht h =>
    exact answer_keeps hq _ (Changes.keeps hchange h (hq s _ _ s.events s.out s.freeIndex s.pending hs))
  | margin body => exact takeMargin_keeps hq body hs
  | pass bytes _ => exact startSend_keeps hq (hq s s.intake _ s.events s.out s.freeIndex s.pending hs)
  | drop => exact hq s s.intake _ s.events s.out s.freeIndex s.pending hs
  | sent _ => exact completeSend_keeps hq hs
  | powerOn _ =>
    exact hq (State.powerOn s.pins) (State.powerOn s.pins).intake (State.powerOn s.pins).ret
      (State.powerOn s.pins).events _ s.freeIndex s.pending (hreset s.pins)

/-- A property of the blocks beside the queues that every change keeps and a power-on reset brings about, every step
keeps. -/
theorem step_keeps {s t : State} (h : step s = .next t) (hs : P s) : P t := by
  obtain ⟨-, rfl⟩ | ⟨i, rest, -, h⟩ := step_cases h
  · exact hs
  · exact RowStep.keeps hq hchange hreset (exec_row h) (hq s s.intake s.ret s.events s.out s.freeIndex rest hs)

end

/-! ## The laws after power-on reset -/

theorem pageLaw_powerOn (pins : Pins) : PageLaw (State.powerOn pins) := by
  have hblank : PageOk Page.blank := ⟨rfl, fun hr => absurd rfl hr⟩
  have hpages : ∀ i : Fin 3, FrameStore.powerOn.pages[i] = Page.blank := fun i => by simp [FrameStore.powerOn]
  have hcount : ∀ r, r ≠ .free → roleCount r FrameStore.powerOn.pages = 0 := fun r hr =>
    (roleCount_eq_zero_iff _ _).mpr (pageIn_eq_none.mpr fun i => by rw [hpages i]; exact Ne.symm hr)
  exact ⟨hcount .write nofun, (hcount .latest nofun).trans_le (Nat.zero_le _), hcount .read nofun, fun i => hpages i ▸ hblank⟩

theorem lookLaw_powerOn (pins : Pins) : LookLaw (State.powerOn pins) :=
  ⟨firstFailure_default _, fun _ => firstFailure_default _, Nat.zero_le _, fun _ => rfl⟩

theorem chainLaw_powerOn (pins : Pins) : ChainLaw (State.powerOn pins) := by
  simp [ChainLaw, PortLaw, State.powerOn, ChainPort.powerOn]

theorem limiterLaw_powerOn (pins : Pins) : LimiterLaw (State.powerOn pins) := by
  simp [LimiterLaw, State.powerOn, Power.powerOn, Limiter.powerOn]

theorem zoneLaw_powerOn (pins : Pins) : ZoneLaw (State.powerOn pins) := by
  simp [ZoneLaw, State.powerOn, Thermal.powerOn, Zone.powerOn, ThermalConfig.powerOn]

theorem cueLaw_powerOn (pins : Pins) : CueLaw (State.powerOn pins) := by
  simp [CueLaw, State.powerOn, CueEngine.powerOn, RampLaw, Power.powerOn, Lights.powerOn, Ramp.none]

theorem fixtureLaw_powerOn (pins : Pins) : FixtureLaw (State.powerOn pins) := by
  simp [FixtureLaw, State.powerOn, Lights.powerOn, FollowBlock.powerOn, anyConflict, footprintsMeet, Fixture.powerOn]

theorem lightLaw_powerOn (pins : Pins) : LightLaw (State.powerOn pins) := by
  simp [LightLaw, State.powerOn, Lights.powerOn, FollowBlock.powerOn, SceneOk, AttrOk, RgbOk, Fixture.powerOn, Attr.zero,
    Rgb.all, poolUsed, Scene.counted]

theorem queueLaw_powerOn (pins : Pins) : QueueLaw (State.powerOn pins) := by
  simp [QueueLaw, State.powerOn, Intake.powerOn, Merger.powerOn, Intake.headDirect]

theorem counterLaw_powerOn (pins : Pins) : CounterLaw (State.powerOn pins) := by
  simp [CounterLaw, CounterOk, inputCounters, intakeCounters, chainCounters, State.powerOn, Intake.powerOn,
    Merger.powerOn, LinkReceiver.powerOn, FrameStore.powerOn, ChainPort.powerOn, Counter.zero]

theorem eventLaw_powerOn (pins : Pins) : EventLaw (State.powerOn pins) := by
  simp [EventLaw, State.powerOn, EventUnit.powerOn, EventUnit.reached]

/-- Settles O5: the laws hold after a power-on reset at any levels of the pins. -/
theorem lawsHoldAtReset : Obligations.LawsHoldAtReset :=
  ⟨pageLaw_powerOn _, lookLaw_powerOn _, chainLaw_powerOn _, limiterLaw_powerOn _, zoneLaw_powerOn _, cueLaw_powerOn _,
    fixtureLaw_powerOn _, lightLaw_powerOn _, queueLaw_powerOn _, counterLaw_powerOn _, eventLaw_powerOn _⟩

end Sys2Proof.Machine
end

section
/-! The laws that every step keeps. -/

namespace Sys2Proof.Machine

section

variable {may : May} {s t : State}

/-! ## Each law under one change -/

theorem PageLaw.of_change (h : Change may s t) (hs : PageLaw s) : PageLaw t := by
  cases h with
  | input h => exact hs.input h
  | settle _ => exact hs.settle
  | clear set _ => cases set <;> exact hs
  | _ => exact hs

theorem LookLaw.of_change (h : Change may s t) (hs : LookLaw s) : LookLaw t := by
  cases h with
  | looks h => exact hs.change h
  | clear set _ => cases set <;> exact hs
  | _ => exact hs

/-- R179: to clear the counters of a set touches nothing else of a port. -/
theorem clearSet_ports_forall {P : ChainPort → Prop} (hp : ∀ p, P p → P p.clearCounters) (set : CounterSet)
    (hs : ∀ c : Fin 8, P s.ports[c]) : ∀ c : Fin 8, P (clearSet s set).ports[c] := by
  cases set with
  | input => exact hs
  | intake => exact hs
  | chain c => exact modifyAt_forall hs (hp _)

theorem clearCounters_port (c : Fin 8) : (clearCounters s).ports[c] = s.ports[c].clearCounters := by
  simp [clearCounters, clearInputCounters, clearIntakeCounters]

theorem ChainLaw.of_change (h : Change may s t) (hs : ChainLaw s) : ChainLaw t := by
  cases h with
  | chains h => exact hs.change h
  | clear set _ => exact clearSet_ports_forall (P := PortLaw) (fun _ h => h) set hs
  | clearAll _ => exact fun c => by rw [clearCounters_port]; exact hs c
  | _ => exact hs

theorem clearSet_portState (set : CounterSet) (c : Fin 8) : (clearSet s set).ports[c].state = s.ports[c].state := by
  cases set with
  | input => rfl
  | intake => rfl
  | chain d =>
    simp only [clearSet, State.modifyPort_ports, Fin.getElem_fin, modifyAt_getElem]
    split
    · next h => simp [h, ChainPort.clearCounters]
    · rfl

theorem LimiterLaw.of_change (h : Change may s t) (hs : LimiterLaw s) : LimiterLaw t := by
  cases h with
  | timing g h =>
    intro c
    obtain ⟨hscale, hrun, hacc⟩ := hs c
    refine ⟨hscale, hrun, fun hphase => ?_⟩
    obtain h | h | h := h
    · exact hacc (h ▸ hphase)
    · exact absurd h hphase
    · exact h c
  | chains h => exact hs.change h
  | clear set _ =>
    intro c
    rw [clearSet_portState]
    cases set <;> exact hs c
  | clearAll _ =>
    intro c
    rw [clearCounters_port]
    exact hs c
  | _ => exact hs

theorem ZoneLaw.of_change (h : Change may s t) (hs : ZoneLaw s) : ZoneLaw t := by
  cases h with
  | thermal h => exact hs.change h
  | clear set _ => cases set <;> exact hs
  | _ => exact hs

theorem CueLaw.of_change (h : Change may s t) (hs : CueLaw s) : CueLaw t := by
  obtain ⟨hlen, hnodup, hok, hmaster, hlight⟩ := hs
  cases h with
  | master h => exact ⟨hlen, hnodup, hok, hmaster.change hok h, hlight⟩
  | lightMaster h => exact ⟨hlen, hnodup, hok, hmaster, hlight.change hok h⟩
  | cues c h =>
    obtain ⟨hlen', hnodup', hok'⟩ := CueQueueOk.change ⟨hlen, hnodup, hok⟩ h
    exact ⟨hlen', hnodup', hok', hmaster, hlight⟩
  | clear set _ => cases set <;> exact ⟨hlen, hnodup, hok, hmaster, hlight⟩
  | _ => exact ⟨hlen, hnodup, hok, hmaster, hlight⟩

theorem FixtureLaw.of_change (h : Change may s t) (hs : FixtureLaw s) : FixtureLaw t := by
  cases h with
  | lights h => exact hs.change h
  | clear set _ => cases set <;> exact hs
  | _ => exact hs

theorem LightLaw.of_change (h : Change may s t) (hfix : FixtureLaw s) (hs : LightLaw s) : LightLaw t := by
  cases h with
  | lights h => exact hs.change hfix h
  | clear set _ => cases set <;> exact hs
  | _ => exact hs

end

/-! ## The settled statements: chapters 2 to 9 -/

/-- Settles O53. -/
theorem lookLawKept : Obligations.LookLawKept := fun _ _ =>
  step_keeps (fun _ _ _ _ _ _ _ h => h) LookLaw.of_change lookLaw_powerOn

/-- Settles O54. -/
theorem chainLawKept : Obligations.ChainLawKept := fun _ _ =>
  step_keeps (fun _ _ _ _ _ _ _ h => h) ChainLaw.of_change chainLaw_powerOn

/-- Settles O55. -/
theorem limiterLawKept : Obligations.LimiterLawKept := fun _ _ =>
  step_keeps (fun _ _ _ _ _ _ _ h => h) LimiterLaw.of_change limiterLaw_powerOn

/-- Settles O56. -/
theorem zoneLawKept : Obligations.ZoneLawKept := fun _ _ =>
  step_keeps (fun _ _ _ _ _ _ _ h => h) ZoneLaw.of_change zoneLaw_powerOn

/-- Settles O57. -/
theorem cueLawKept : Obligations.CueLawKept := fun _ _ =>
  step_keeps (fun _ _ _ _ _ _ _ h => h) CueLaw.of_change cueLaw_powerOn

/-- Settles O58: the law of the fixtures holds by itself, that of the levels with it, as the law of the fixtures bounds
the rate of a following fixture. -/
theorem lightingLawsKept : Obligations.LightingLawsKept := fun _ _ h hfix =>
  ⟨step_keeps (fun _ _ _ _ _ _ _ h => h) FixtureLaw.of_change fixtureLaw_powerOn h hfix, fun hlight =>
    (step_keeps (P := fun s => FixtureLaw s ∧ LightLaw s) (fun _ _ _ _ _ _ _ h => h)
      (fun hc hs => ⟨hs.1.of_change hc, hs.2.of_change hc hs.1⟩)
      (fun pins => ⟨fixtureLaw_powerOn pins, lightLaw_powerOn pins⟩) h ⟨hfix, hlight⟩).2⟩

end Sys2Proof.Machine
end

section
/-! The laws of the queues, of the event unit and of the counters, and the READ page, under every step. -/

namespace Sys2Proof.Machine

/-! ## The queues (R164, R165, R168, R169) -/

section

variable {may : May} {s t : State}

/-- R169: the arbiter starts a packet, or leaves queues that are empty. -/
theorem QueueLaw.startSend (hq : s.intake.queue.length ≤ 8) (hown : s.ret.own.length ≤ 8) (hres : s.ret.reserved = 0)
    (hpass : s.ret.pass.length ≤ 16) (hwait : s.intake.executor = .waiting → s.intake.headDirect = true)
    (hlook : Looked s) : QueueLaw (startSend s) := by
  have hown' := startSend_own_length_le s
  have hpass' := startSend_pass_length_le s
  refine ⟨by simpa using hq, by omega, by simpa using hres, by omega, startSend_idle s, by simpa using hwait, ?_⟩
  intro hdirect hfree
  rw [startSend_intake] at hdirect ⊢
  refine hlook hdirect ?_
  have hres' := startSend_reserved s
  simp only [Merger.free, Config.ownSize] at hfree ⊢
  omega

theorem QueueLaw.lookIntake (h : QueueCore 0 s) : QueueLaw (lookIntake s) :=
  (queueLaw_iff _).mpr ⟨h.lookIntake, Looked.lookIntake s⟩

/-- R164: a packet offered to the intake queue. -/
theorem QueueLaw.offer (e : Entry) (hs : QueueLaw s) : QueueLaw (offer e s) := by
  have hcore := ((queueLaw_iff s).mp hs).1
  unfold Machine.offer
  split
  · next hroom =>
    obtain ⟨-, hown, hres, hpass, hidle, hwait⟩ := hcore
    refine QueueLaw.lookIntake ⟨by simpa [Config.intakeSize] using hroom, hown, hres, hpass, hidle, fun hw => ?_⟩
    have hd := hwait hw
    unfold Intake.headDirect at hd ⊢
    cases hq : s.intake.queue with
    | nil => simp [hq] at hd
    | cons d rest => simpa [hq] using hd
  · split
    · unfold replyFull
      split
      · exact hs
      · next hfree =>
        have hroom := (free_ne_zero_iff s.ret).mp hfree
        exact (queueLaw_iff _).mpr ⟨hcore.placeOwn _ (by omega), Looked.placeOwn _ _⟩
    · exact hs
    · exact hs

theorem QueueLaw.takeMargin (body : List Byte) (hs : QueueLaw s) : QueueLaw (takeMargin body s) := by
  unfold Machine.takeMargin
  split
  · exact hs
  · exact hs
  · exact hs
  · unfold routeMargin
    split
    · exact hs
    · exact QueueLaw.offer _ hs
    · exact QueueLaw.offer (s := s.passOn _) _ hs
    · exact QueueLaw.offer (s := s.passOn _) _ hs

theorem RowStep.queueLaw (h : RowStep may s t) (hs : QueueLaw s) : QueueLaw t := by
  have hlaw := hs
  obtain ⟨hcore, hlook⟩ := (queueLaw_iff s).mp hs
  obtain ⟨hq, hown, hres, hpass, hidle, hwait⟩ := hs
  cases h with
  | changes h => exact (queueLaw_iff _).mpr ⟨h.queueCore hcore, h.looked hlook⟩
  | waits hd _ => exact ⟨hq, hown, hres, hpass, hidle, fun _ => hd, fun _ _ => rfl⟩
  | command ht h => exact QueueCore.answer (h.queueCore (hcore.beginCommand ht))
  | margin body => exact hlaw.takeMargin body
  | pass bytes hroom =>
    refine QueueLaw.startSend hq hown hres ?_ hwait.1 hlook
    simp only [List.length_append, List.length_singleton]
    omega
  | drop => exact hlaw
  | sent _ =>
    have hsent : QueueLaw (nextSend s) := QueueLaw.startSend hq hown hres hpass hwait.1 hlook
    obtain ⟨-, e⟩ | ⟨-, e⟩ := completeSend_cases s <;> rw [e]
    · exact hsent
    · obtain ⟨hcore', hlook'⟩ := (queueLaw_iff _).mp hsent
      exact (queueLaw_iff _).mpr ⟨hcore'.tryNotice, hlook'.tryNotice⟩
  | powerOn _ => exact queueLaw_powerOn s.pins

/-! ## The event unit (R175) -/

theorem takeMargin_events (body : List Byte) (s : State) : (takeMargin body s).events = s.events := by
  have hoffer : ∀ e (s : State), (offer e s).events = s.events := fun e s => by
    unfold offer replyFull
    split
    · simp
    · split
      · split <;> simp
      · rfl
      · rfl
  unfold takeMargin routeMargin
  split
  · rfl
  · rfl
  · rfl
  · split <;> simp [hoffer]

theorem Changes.eventLaw (h : Changes may s t) (hs : EventLaw s) : EventLaw t :=
  Changes.keeps (fun hc hs => EventLaw.change hs hc) h hs

theorem RowStep.eventLaw (h : RowStep may s t) (hs : EventLaw s) : EventLaw t := by
  have hof : ∀ {u v : State}, v.events = u.events → EventLaw u → EventLaw v := fun e hu => by
    rw [eventLaw_iff] at hu ⊢; rwa [e]
  cases h with
  | changes h => exact h.eventLaw hs
  | waits _ _ => exact hs
  | command ht h => exact hof (answer_events _ _) (Changes.eventLaw h (hof (beginCommand_events ..) hs))
  | margin body => exact hof (takeMargin_events body s) hs
  | pass bytes _ => exact hof (startSend_events _) hs
  | drop => exact hs
  | sent _ =>
    have hsent : EventLaw (nextSend s) := hof (startSend_events { s with ret := { s.ret with sending := none } }) hs
    obtain ⟨-, e⟩ | ⟨-, e⟩ := completeSend_cases s <;> rw [e]
    · exact hsent
    · exact Changes.eventLaw (may := may) (Changes.tryNotice .refl) hsent
  | powerOn _ => exact eventLaw_powerOn s.pins

/-! ## The counters (R179) -/

theorem SetGrows.trans {u : State} {set : CounterSet} (h : SetGrows may s t set) (h' : SetGrows may t u set) :
    SetGrows may s u set := by
  obtain h' | h' := h'
  · obtain h | ⟨hm, h⟩ := h
    · exact .inl (List.forall₂_iff_get.mpr ⟨h.length_eq.trans h'.length_eq, fun i hi hk =>
        ((List.forall₂_iff_get.mp h).2 i hi (h.length_eq ▸ hi)).trans
          ((List.forall₂_iff_get.mp h').2 i (h.length_eq ▸ hi) hk)⟩)
    · refine .inr ⟨hm, fun d hd => ?_⟩
      obtain ⟨i, hi, rfl⟩ := List.mem_iff_getElem.mp hd
      have hi' : i < (countersOf t set).length := h'.length_eq ▸ hi
      exact ((List.forall₂_iff_get.mp h').2 i hi' hi (h _ (List.getElem_mem hi'))).1
  · exact .inr h'

theorem Changes.counters (h : Changes may s t) (set : CounterSet) : SetGrows may s t set := by
  induction h with
  | refl => exact SetGrows.of_eq rfl
  | tail _ hc ih => exact ih.trans (hc.counters set)

/-- R179: beside the intake the queues' operations touch no counter. -/
theorem SetGrows.of_intake (hintake : List.Forall₂ CounterGrows (intakeCounters s) (intakeCounters t))
    (hlink : t.link = s.link) (hstore : t.store = s.store) (hports : t.ports = s.ports) (set : CounterSet) :
    SetGrows may s t set := by
  cases set with
  | input => exact SetGrows.of_eq (by simp only [countersOf, inputCounters, hlink, hstore])
  | intake => exact .inl hintake
  | chain c => exact SetGrows.of_eq (by simp only [countersOf, hports])

theorem offer_counters (e : Entry) (s : State) :
    List.Forall₂ CounterGrows (intakeCounters s) (intakeCounters (offer e s)) := by
  unfold offer
  split
  · rw [lookIntake_counters]; exact forall₂_counterGrows_refl _
  · split
    · unfold replyFull
      split
      · simp [intakeCounters]
      · rw [placeOwn_counters]; exact forall₂_counterGrows_refl _
    · simp [intakeCounters]
    · simp [intakeCounters]

theorem takeMargin_counters (body : List Byte) (s : State) :
    List.Forall₂ CounterGrows (intakeCounters s) (intakeCounters (takeMargin body s)) := by
  unfold takeMargin
  split
  · simp [intakeCounters, countFraming]
  · simp [intakeCounters, countCheck]
  · simp [intakeCounters, countMisplaced]
  · unfold routeMargin
    split
    · exact forall₂_counterGrows_refl _
    · exact offer_counters _ s
    · exact offer_counters _ (s.passOn _)
    · exact offer_counters _ (s.passOn _)

theorem answer_counters (e : Entry) (k : Taken) : intakeCounters (answer e k) = intakeCounters k.state := by
  unfold answer
  split
  · exact placeOwn_counters _ _
  · exact lookIntake_counters _

theorem startSend_counters (s : State) : intakeCounters (startSend s) = intakeCounters s := by
  simp [intakeCounters]

theorem SetGrows.of_intake_eq (hintake : intakeCounters t = intakeCounters s) (hlink : t.link = s.link)
    (hstore : t.store = s.store) (hports : t.ports = s.ports) (set : CounterSet) : SetGrows may s t set :=
  SetGrows.of_intake (hintake ▸ forall₂_counterGrows_refl _) hlink hstore hports set

/-- R179: every row lets the counters of a set count on, but for a set it may clear. -/
theorem RowStep.counters (h : RowStep may s t) (set : CounterSet) : SetGrows may s t set := by
  cases h with
  | changes h => exact h.counters set
  | waits _ _ => exact SetGrows.of_intake_eq rfl rfl rfl rfl set
  | @command e rest k ht h =>
    have hbegun : SetGrows may s (beginCommand e rest s) set := SetGrows.of_intake_eq rfl rfl rfl rfl set
    exact (hbegun.trans (Changes.counters h set)).trans
      (SetGrows.of_intake_eq (answer_counters _ _) (answer_link _ _) (answer_store _ _) (answer_ports _ _) set)
  | margin body =>
    have hblocks := takeMargin_keeps (P := fun t => t.link = s.link ∧ t.store = s.store ∧ t.ports = s.ports)
      (fun _ _ _ _ _ _ _ h => h) body ⟨rfl, rfl, rfl⟩
    exact SetGrows.of_intake (takeMargin_counters body s) hblocks.1 hblocks.2.1 hblocks.2.2 set
  | pass bytes _ =>
    have hcounters : intakeCounters (appendPass bytes s) = intakeCounters s := startSend_counters _
    exact SetGrows.of_intake_eq hcounters (startSend_link _) (startSend_store _) (startSend_ports _) set
  | drop =>
    refine SetGrows.of_intake (s := s) (t := { s with ret := { s.ret with drops := s.ret.drops.inc } }) ?_ rfl rfl rfl set
    simp [intakeCounters]
  | sent _ =>
    have hblocks := completeSend_keeps (P := fun t => t.link = s.link ∧ t.store = s.store ∧ t.ports = s.ports)
      (fun _ _ _ _ _ _ _ h => h) ⟨rfl, rfl, rfl⟩
    refine SetGrows.of_intake_eq ?_ hblocks.1 hblocks.2.1 hblocks.2.2 set
    obtain ⟨-, e⟩ | ⟨-, e⟩ := completeSend_cases s <;> rw [e]
    · exact startSend_counters _
    · exact (tryNotice_counters _).trans (startSend_counters _)
  | powerOn hm => exact .inr ⟨hm set, (counterLaw_iff _).mp (counterLaw_powerOn s.pins) set⟩

end

/-- Settles O59. -/
theorem queueLawKept : Obligations.QueueLawKept := by
  intro s t h hs
  obtain ⟨-, rfl⟩ | ⟨i, rest, -, h⟩ := step_cases h
  · exact hs
  · exact (exec_row h).queueLaw hs

/-- R179: a step of a row lets the counters of a set count on, but for a set the row may clear. -/
theorem step_counters {s t : State} (h : step s = .next t) (set : CounterSet) :
    List.Forall₂ CounterGrows (countersOf s set) (countersOf t set)
      ∨ (∃ i, s.pending.head? = some i ∧ RowClears i s set) ∧ ∀ d ∈ countersOf t set, CounterOk d := by
  obtain ⟨-, rfl⟩ | ⟨i, rest, hp, h⟩ := step_cases h
  · exact .inl (forall₂_counterGrows_refl _)
  · exact ((exec_row h).counters set).imp_right fun hm => ⟨⟨i, by rw [hp]; rfl, hm.1⟩, hm.2⟩

theorem CounterGrows.spec {c d : Counter} (h : CounterGrows c d) (hc : CounterOk c) :
    c.value ≤ d.value ∧ (c.value = 65535 → d.value = 65535 ∧ d.overflow = true) := by
  obtain ⟨⟨hmax, hover⟩, hle⟩ := h hc
  refine ⟨hle, fun hfull => ?_⟩
  have hd : d.value = 65535 := by omega
  exact ⟨hd, hover.mpr hd⟩

/-- Settles O60. -/
theorem eventAndCounterLawsKept : Obligations.EventAndCounterLawsKept := by
  intro s t h
  refine ⟨fun hs => ?_, fun hs => ?_, fun hs set hpower hsoft htables hread k c hc => ?_⟩
  · obtain ⟨-, rfl⟩ | ⟨i, rest, -, h⟩ := step_cases h
    · exact hs
    · exact (exec_row h).eventLaw hs
  · obtain ⟨-, rfl⟩ | ⟨i, rest, -, h⟩ := step_cases h
    · exact hs
    · exact CounterLaw.of_grows (s := s.setPending rest) hs (exec_row h).counters
  · obtain hgrows | ⟨⟨i, hi, rfl | rfl | rfl | ⟨rfl, hcleared⟩⟩, -⟩ := step_counters h set
    · obtain ⟨hk, rfl⟩ := List.getElem?_eq_some_iff.mp hc
      have hk' : k < (countersOf t set).length := hgrows.length_eq ▸ hk
      have hone := (List.forall₂_iff_get.mp hgrows).2 k hk hk'
      exact ⟨(countersOf t set)[k], List.getElem?_eq_getElem hk',
        hone.spec ((counterLaw_iff s).mp hs set _ (List.getElem_mem hk))⟩
    · exact absurd hi hpower
    · exact absurd hi hsoft
    · exact absurd hi htables
    · exact absurd ⟨hi, hcleared⟩ hread

end Sys2Proof.Machine
end

section
/-! What the frame events leave alone, and the READ page under every step (R7, R8). -/

namespace Sys2Proof.Machine

/-! ## The blocks that an output frame end does not touch -/

section

variable {P : State → Prop} (hr : ∀ e s, P s → P (raise e s)) (hc : ∀ s, P s → P (countFrame s))
  (hblocks : ∀ (s : State) l ps pw th cu li f, P s →
    P { s with looks := l, ports := ps, power := pw, thermal := th, cues := cu, lights := li, follow := f })
include hr hblocks

theorem firingSteps_keeps (c : Cue) : ∀ f ∈ firingSteps c, ∀ s, P s → P (f s) := by
  have hskip : ∀ id k s, P s → P (noteSkip id k s) := fun id k s h =>
    hr _ _ (hblocks s s.looks s.ports s.power s.thermal _ s.lights s.follow h)
  intro f hf s h
  have hlights : ∀ li fo, P { s with lights := li, follow := fo } := fun li fo =>
    hblocks s s.looks s.ports s.power s.thermal s.cues li fo h
  simp only [firingSteps, List.mem_append, List.mem_cons, List.mem_map, List.not_mem_nil, or_false] at hf
  obtain ((rfl | rfl | rfl) | ⟨x, -, rfl⟩) | rfl | rfl | rfl := hf
  · unfold issueSwap swapLook
    split
    · split
      · exact hr _ _ (hblocks s _ s.ports s.power s.thermal s.cues s.lights s.follow h)
      · exact hr _ _ h
    · exact h
  · unfold noteSwap
    split
    · exact hskip _ _ _ h
    · exact h
  · unfold issueMaster
    split
    · exact hblocks s s.looks s.ports _ s.thermal s.cues s.lights s.follow h
    · exact h
  · unfold issueFade lightFade
    split
    · exact hlights _ s.follow
    · exact hskip _ _ _ h
    · exact hskip _ _ _ h
    · exact hskip _ _ _ h
  · unfold issueFollow followAction
    split
    · split
      · exact hlights _ _
      · exact hlights _ s.follow
    · exact h
  · unfold issueLightMaster
    split
    · exact hlights _ s.follow
    · exact h
  · exact hr _ _ (hblocks s s.looks s.ports s.power s.thermal _ s.lights s.follow h)

theorem checkFrameEnd_keeps {s : State} (h : P s) : P (checkFrameEnd s) := by
  have hlooks : ∀ l, P { s with looks := l } := fun l =>
    hblocks s l s.ports s.power s.thermal s.cues s.lights s.follow h
  unfold checkFrameEnd
  split
  · split
    · exact hlooks _
    · exact hr _ _ (hlooks _)
  · exact h

include hc

theorem cuesFrameEnd_keeps {w : EndWork} (h : P w.state) : P (cuesFrameEnd w).state := by
  refine EndWork.act_keeps (EndWork.actAll_keeps h (fun f hf s hs => ?_) hc)
    (fun s hs => hblocks s s.looks s.ports s.power s.thermal _ s.lights s.follow hs) hc
  obtain ⟨c, -, hf⟩ := List.mem_flatMap.mp hf
  exact firingSteps_keeps hr hblocks c f hf s hs

/-- R17, Table 1-7: what no block's work at a frame end touches. -/
theorem frameEndWork_keeps (order : FrameEndOrder) {s : State} (h : P s) : P (frameEndWork order s) := by
  have hchecked := EndWork.act_keeps
    (cuesFrameEnd_keeps hr hc hblocks (w := { state := s, left := some order.countAt }) h)
    (fun _ => checkFrameEnd_keeps hr hblocks) hc
  have hall := blocksFrameEnd_keeps hr hc
    (fun s ps ls h => hblocks s s.looks ps _ s.thermal s.cues s.lights s.follow h)
    (fun s t _ h => hblocks s s.looks s.ports s.power t s.cues s.lights s.follow h) order hchecked
  exact EndWork.finish_keeps
    (EndWork.act_keeps hall (fun s h => hblocks s s.looks s.ports s.power s.thermal s.cues s.lights _ h) hc) hc

end

/-- R17: the link receiver, the frame store, the latch and the timing generator at a frame end. -/
theorem frameEndWork_frame (order : FrameEndOrder) (s : State) :
    (frameEndWork order s).pins = s.pins ∧ (frameEndWork order s).link = s.link
      ∧ (frameEndWork order s).store = s.store ∧ (frameEndWork order s).timing = s.timing
      ∧ (frameEndWork order s).comp = s.comp ∧ (frameEndWork order s).freeIndex = s.freeIndex
      ∧ (frameEndWork order s).pending = s.pending ∧ (frameEndWork order s).intake.queue = s.intake.queue := by
  refine frameEndWork_keeps (P := fun t => t.pins = s.pins ∧ t.link = s.link ∧ t.store = s.store ∧ t.timing = s.timing
      ∧ t.comp = s.comp ∧ t.freeIndex = s.freeIndex ∧ t.pending = s.pending ∧ t.intake.queue = s.intake.queue)
    (fun e t h => ?_) (fun t h => ?_) (fun _ _ _ _ _ _ _ _ h => h) order ⟨rfl, rfl, rfl, rfl, rfl, rfl, rfl, rfl⟩
  · simpa using h
  · simpa using h

theorem frameEndWork_store (order : FrameEndOrder) (s : State) : (frameEndWork order s).store = s.store := by
  obtain ⟨-, -, h, -⟩ := frameEndWork_frame order s
  exact h

/-! ## The pages at an output frame start -/

theorem storeFrameStart_pages (s : State) : (storeFrameStart s).1.store.pages = (settlePages s.store).pages := by
  simp only [storeFrameStart, raiseLoss, endLoss]
  split <;> split <;> simp

theorem beginFrame_store (s : State) : (beginFrame s).store = s.store := rfl

theorem latchedState_store (s : State) : (latchedState s).store = (storeFrameStart (beginFrame s)).1.store := by
  simp only [latchedState, takeLatch, raiseWhen_store]
  rfl

@[simp] theorem markMeasured_store (s : State) : (markMeasured s).store = s.store := by simp only [markMeasured]

@[simp] theorem sendPorts_store (s : State) : (sendPorts s).store = s.store := by simp only [sendPorts]

@[simp] theorem addDemand_store (s : State) : (addDemand s).store = s.store := by simp only [addDemand]

@[simp] theorem measureRegions_store (s : State) : (measureRegions s).store = s.store := by simp only [measureRegions]

@[simp] theorem stepFollow_store (s : State) : (stepFollow s).store = s.store := by simp only [stepFollow]

@[simp] theorem composeImages_store (s : State) : (composeImages s).store = s.store := by simp only [composeImages]

@[simp] theorem sendLevels_store (s : State) : (sendLevels s).store = s.store := by simp only [sendLevels]

theorem frameStart_store (s : State) : (frameStart s).store = (latchedState s).store := by
  simp only [frameStart_eq, sendLevels_store, composeImages_store, stepFollow_store, measureRegions_store,
    addDemand_store, sendPorts_store, markMeasured_store]

theorem frameStart_pages (s : State) : (frameStart s).store.pages = (settlePages s.store).pages := by
  rw [frameStart_store, latchedState_store, storeFrameStart_pages, beginFrame_store]

/-- R7: a page that is READ in both states is the same in both. -/
def ReadKept (old new : Vector Page 3) : Prop :=
  ∀ i : Fin 3, old[i].role = .read → new[i].role = .read → new[i] = old[i]

theorem ReadKept.refl (pages : Vector Page 3) : ReadKept pages pages := fun _ _ _ => rfl

/-- R8: a frame start that makes a page READ frees the page that was. -/
theorem settlePages_readKept (st : FrameStore) : ReadKept st.pages (settlePages st).pages := by
  unfold settlePages
  split
  · intro i hold hnew
    rw [Fin.getElem_fin] at hold
    simp [hold] at hnew
  · exact .refl _

theorem frameEnd_readKept (order : FrameEndOrder) (s : State) : ReadKept s.store.pages (frameEnd order s).store.pages := by
  have hstore : (endFrame (frameEndWork order s)).store = s.store := frameEndWork_store order s
  unfold frameEnd
  extract_lets ended
  split
  · rw [frameStart_pages, hstore]; exact settlePages_readKept _
  · rw [hstore]; exact .refl _

theorem frameEndWhen_readKept (comes : Bool) (s : State) : ReadKept s.store.pages (frameEndWhen comes s).store.pages := by
  unfold frameEndWhen
  split
  · exact frameEnd_readKept _ (nextFree s)
  · exact .refl _

theorem frameStart_readKept (s : State) : ReadKept s.store.pages (frameStart s).store.pages := by
  rw [frameStart_pages]
  exact settlePages_readKept _

theorem startOrHold_readKept (s : State) : ReadKept s.store.pages (startOrHold s).store.pages := by
  unfold startOrHold
  split
  · exact .refl _
  · exact frameStart_readKept s

theorem frameStartIf_readKept (b : Bool) (s : State) :
    ReadKept s.store.pages (if b then frameStart s else s).store.pages := by
  split
  · exact frameStart_readKept s
  · exact .refl _

/-! ## The pages under the other operations -/

/-- R7: a page that is READ afterwards was READ and is unchanged. -/
def ReadFromOld (old new : Vector Page 3) : Prop := ∀ i : Fin 3, new[i].role = .read → new[i] = old[i]

theorem ReadFromOld.refl (pages : Vector Page 3) : ReadFromOld pages pages := fun _ _ => rfl

theorem ReadFromOld.setRole {r : PageRole} (hr : r ≠ .read) (p : Fin 3) (pages : Vector Page 3) :
    ReadFromOld pages (setRole r p pages) := by
  intro i h
  rw [Fin.getElem_fin, setRole_getElem] at h ⊢
  split at h
  · exact absurd h hr
  · next hne => rw [if_neg hne]; rfl

theorem ReadFromOld.moveRole {old new : PageRole} (hn : new ≠ .read) (pages : Vector Page 3) :
    ReadFromOld pages (moveRole old new pages) := by
  intro i h
  rw [Fin.getElem_fin, moveRole_getElem] at h ⊢
  split at h
  · exact absurd h hn
  · next hne => rw [if_neg hne]; rfl

theorem ReadFromOld.trans {a b c : Vector Page 3} (h : ReadFromOld a b) (h' : ReadFromOld b c) : ReadFromOld a c :=
  fun i hi => (h' i hi).trans (h i (h' i hi ▸ hi))

theorem ReadFromOld.modifyAt {p : Fin 3} {f : Page → Page} {pages : Vector Page 3} (hf : (f pages[p]).role ≠ .read) :
    ReadFromOld pages (modifyAt pages p f) := by
  intro i h
  rw [Fin.getElem_fin, modifyAt_getElem] at h ⊢
  split at h
  · exact absurd h hf
  · next hne => rw [if_neg hne]; rfl

/-- R3–R6: no operation on input frames makes a page READ or touches a READ page. -/
theorem InputChange.readFromOld {s : State} {l : LinkReceiver} {st : FrameStore} (h : InputChange s l st) :
    ReadFromOld s.store.pages st.pages := by
  cases h with
  | close _ =>
    simp only [closeInput]
    split
    · exact .refl _
    · next p _ =>
      split
      · show ReadFromOld s.store.pages (setRole .latest p (moveRole .latest .free s.store.pages))
        exact (ReadFromOld.moveRole (by decide) _).trans (ReadFromOld.setRole (by decide) _ _)
      · show ReadFromOld s.store.pages (setRole .free p s.store.pages)
        exact ReadFromOld.setRole (by decide) _ _
  | take seq width height _ =>
    simp only [openInput]
    split
    · exact .refl _
    · exact ReadFromOld.modifyAt (by rw [Page.take_role]; nofun)
  | reject _ => exact .refl _
  | line line count px ok _ =>
    unfold judgeLine
    split
    · dsimp only
      split
      · exact .refl _
      · next p hp => exact ReadFromOld.modifyAt (by rw [Page.writeLine_role, (pageIn_eq_some hp).1]; nofun)
    · exact .refl _
  | settings _ hp _ _ => rw [hp]; exact .refl _

theorem Change.readFromOld {may : May} {s t : State} (hm : ¬ may.starts) (h : Change may s t) :
    ReadFromOld s.store.pages t.store.pages := by
  cases h with
  | input h => exact h.readFromOld
  | settle h => exact absurd h hm
  | clear set _ => cases set <;> exact .refl _
  | _ => exact .refl _

theorem Changes.readFromOld {may : May} {s t : State} (hm : ¬ may.starts) (h : Changes may s t) :
    ReadFromOld s.store.pages t.store.pages := by
  induction h with
  | refl => exact .refl _
  | tail _ hc ih => exact ih.trans (hc.readFromOld hm)

/-- R7: a row that takes no frame start. -/
theorem RowStep.readKept {may : May} {s t : State} (hm : ¬ may.starts) (h : RowStep may s t) :
    ReadKept s.store.pages t.store.pages := by
  have hkeep : ∀ {u : State}, u.store = s.store → ReadKept s.store.pages u.store.pages := fun e => e ▸ .refl _
  cases h with
  | changes h => exact fun i _ => h.readFromOld hm i
  | waits _ _ => exact .refl _
  | command ht h => exact fun i _ => by rw [answer_store]; exact Changes.readFromOld hm h i
  | margin body => exact hkeep (takeMargin_keeps (P := fun t => t.store = s.store) (fun _ _ _ _ _ _ _ h => h) body rfl)
  | pass bytes _ => exact hkeep (startSend_store _)
  | drop => exact .refl _
  | sent _ => exact hkeep (completeSend_keeps (P := fun t => t.store = s.store) (fun _ _ _ _ _ _ _ h => h) rfl)
  | powerOn _ =>
    intro i _ h
    simp [powerOnReset, State.powerOn, FrameStore.powerOn, Page.blank] at h

/-- R7: a row that may take a frame start. -/
theorem exec_starts_readKept {i : Instr} (hi : RowStarts i) {s t : State} (h : exec i s = .next t) :
    ReadKept s.store.pages t.store.pages := by
  have hend : ∀ b, (.next (frameEndWhen b s) : Host.Outcome State Fault Refusal) = .next t →
      ReadKept s.store.pages t.store.pages := fun b h => Host.Outcome.next.inj h ▸ frameEndWhen_readKept b s
  cases i with
  | refPulse =>
    obtain rfl := Host.Outcome.next.inj h
    have hstore : (raiseWhen (s.timing.ref == .lost) .refRestored (setReference .locked s)).store = s.store :=
      raiseWhen_store ..
    exact hstore ▸ startOrHold_readKept (raiseWhen (s.timing.ref == .lost) .refRestored (setReference .locked s))
  | refLossTimeout =>
    obtain rfl := Host.Outcome.next.inj h
    split
    · have hstore : (raise .refLoss (setReference .lost s)).store = s.store := raise_store ..
      exact hstore ▸ startOrHold_readKept (raise .refLoss (setReference .lost s))
    · exact .refl _
  | outputFrameStart => exact Host.Outcome.next.inj h ▸ frameStartIf_readKept _ s
  | inputLoss => exact Host.Outcome.next.inj h ▸ frameStartIf_readKept _ s
  | outputFrameEnd order =>
    obtain rfl := Host.Outcome.next.inj h
    split
    · exact frameEnd_readKept order s
    · exact .refl _
  | tileSilent chain position => exact hend _ h
  | chainFailed chain => exact hend _ h
  | holdoffExpiry chain => exact hend _ h
  | zoneWarm zone => exact hend _ h
  | zoneHot zone => exact hend _ h
  | zoneShutdown zone => exact hend _ h
  | zoneStepDown zone => exact hend _ h
  | zoneShutdownExit zone => exact hend _ h
  | _ => exact hi.elim

/-- Settles O52: every change keeps the law on page roles; and only a frame start makes a page READ, which frees the one
that was. -/
theorem pageLawKept : Obligations.PageLawKept := by
  intro s t h hs
  refine ⟨step_keeps (fun _ _ _ _ _ _ _ h => h) PageLaw.of_change pageLaw_powerOn h hs, ?_⟩
  show ReadKept s.store.pages t.store.pages
  obtain ⟨-, rfl⟩ | ⟨i, rest, -, h⟩ := step_cases h
  · exact .refl _
  · by_cases hi : RowStarts i
    · exact exec_starts_readKept (s := s.setPending rest) hi h
    · exact RowStep.readKept (s := s.setPending rest) hi (exec_row h)

end Sys2Proof.Machine
end

section
/-! The queue of rows, the reset and the executor (O1 to O4, O6 to O9). -/

namespace Sys2Proof.Machine

/-! ## The queue of rows -/

/-- Settles O1. -/
theorem stepRunsFrontRow : Obligations.StepRunsFrontRow :=
  ⟨fun _ _ _ => rfl, fun s h => by simp only [step, h]⟩

theorem exec_next (i : Instr) (s : State) : ∃ t, exec i s = .next t := by
  cases i <;> exact ⟨_, rfl⟩

theorem Change.pending {may : May} {s t : State} (h : Change may s t) : t.pending = s.pending := by
  cases h with
  | clear set _ => cases set <;> rfl
  | _ => rfl

theorem Changes.pending {may : May} {s t : State} (h : Changes may s t) : t.pending = s.pending := by
  induction h with
  | refl => rfl
  | tail _ hc ih => exact hc.pending.trans ih

theorem offer_pending (e : Entry) (s : State) : (offer e s).pending = s.pending := by
  unfold offer replyFull
  split
  · simp
  · split
    · split <;> simp
    · rfl
    · rfl

theorem takeMargin_pending (body : List Byte) (s : State) : (takeMargin body s).pending = s.pending := by
  unfold takeMargin routeMargin
  split
  · rfl
  · rfl
  · rfl
  · split <;> simp [offer_pending]

/-- No row touches the rows waiting. -/
theorem RowStep.pending {may : May} {s t : State} (h : RowStep may s t) : t.pending = s.pending := by
  cases h with
  | changes h => exact h.pending
  | waits _ _ => rfl
  | command _ h => exact (answer_pending _ _).trans ((Changes.pending h).trans (beginCommand_pending ..))
  | margin body => exact takeMargin_pending body s
  | pass bytes _ => exact startSend_pending _
  | drop => rfl
  | sent _ =>
    obtain ⟨-, e⟩ | ⟨-, e⟩ := completeSend_cases s <;> rw [e]
    · exact startSend_pending _
    · exact (tryNotice_pending _).trans (startSend_pending _)
  | powerOn _ => rfl

/-- Settles O2. -/
theorem everyRowAnswersNext : Obligations.EveryRowAnswersNext := fun i s => by
  obtain ⟨t, h⟩ := exec_next i s
  exact ⟨t, h, (exec_row h).pending⟩

/-! ## The reset -/

/-- Settles O3. -/
theorem powerOnValues : Obligations.PowerOnValues := by
  intro pins s isDefault cleared noRamp still
  have hdefault : isDefault Look.default := by
    refine ⟨fun i => ?_, fun i => ?_, fun i k => ?_, fun i => ?_, rfl, rfl⟩
    · simp [Look.default, TileEntry.blank]
    · simp [Look.default, Rgb.all]
    · simp [Look.default, Look.defaultCurve]
    · simp [Look.default, Region.blank]
  refine ⟨rfl, rfl, fun i => ?_, rfl, rfl, ⟨hdefault, hdefault, rfl, rfl, rfl, fun i => ?_⟩, ?_, fun c => ⟨?_, fun i => ?_⟩,
    ⟨rfl, rfl, fun c => ?_⟩, ⟨rfl, fun z => ?_⟩, rfl, ⟨fun x => ?_, fun x => ?_, ?_, rfl, rfl⟩,
    ⟨fun r => ?_, fun x => ?_, fun l => ?_⟩, rfl, rfl, rfl⟩
  · simp [s, State.powerOn, FrameStore.powerOn, Page.blank, Rgb.all]
  · simp [s, State.powerOn, LookStore.powerOn]
  · refine ⟨rfl, rfl, rfl, hdefault, fun i => ?_, fun i => ?_, rfl, fun z => ?_, fun c => ?_⟩ <;>
      simp [s, State.powerOn, FrameLatch.powerOn]
  · simp [s, State.powerOn, ChainPort.powerOn, cleared, Counter.zero]
  · simp [s, State.powerOn, ChainPort.powerOn, Position.blank]
  · simp [s, State.powerOn, Power.powerOn, Limiter.powerOn]
  · simp [s, State.powerOn, Thermal.powerOn, Zone.powerOn]
  · simp [s, State.powerOn, Lights.powerOn, Fixture.powerOn, still, Attr.zero]
  · simp [s, State.powerOn, Lights.powerOn]
  · simp [s, State.powerOn, Lights.powerOn, poolFree, poolUsed, Scene.counted, Config.poolSize]
  · simp [s, State.powerOn, FollowBlock.powerOn, RegionSum.zero, Rgb.all]
  · simp [s, State.powerOn, FollowBlock.powerOn, Rgb.all]
  · simp [s, State.powerOn, FollowBlock.powerOn]

/-- Settles O4. -/
theorem powerOnResetSetsEveryBlock : Obligations.PowerOnResetSetsEveryBlock := fun s =>
  ⟨powerOnReset s, rfl, rfl, ⟨rfl, rfl, rfl, rfl, rfl, rfl, rfl, rfl, rfl, rfl, rfl, rfl, rfl, rfl⟩, rfl, rfl,
    fun c => by simp [powerOnReset, Output.blank], fun l => by simp [powerOnReset, Output.blank]⟩

end Sys2Proof.Machine
end

section
/-! The executor and its answers (O6 to O9). -/

namespace Sys2Proof.Machine

/-! ## The rows of the catalogue (Table 10-4) -/

/-- Table 10-4: the rows that take one code of the catalogue, with that code. -/
def codeRows : List (Instr × Byte) :=
  [(.readIdentity, 0x01), (.readStatus, 0x02), (.setAddresses, 0x03), (.setInput, 0x10), (.setOutput, 0x11),
   (.readInput, 0x12), (.writeTiles, 0x20), (.writeProfiles, 0x21), (.writeCurve, 0x22), (.writeRegions, 0x23),
   (.setLookFields, 0x24), (.clearStaged, 0x25), (.copyActive, 0x26), (.checkLook, 0x27), (.readLook, 0x28),
   (.writeTileType, 0x29), (.setChain, 0x30), (.restartChain, 0x31), (.readRoster, 0x32), (.setMaster, 0x40),
   (.setThermal, 0x48), (.readThermal, 0x49), (.addCue, 0x50), (.cancelCue, 0x51), (.clearCues, 0x52), (.readCues, 0x53),
   (.setGuard, 0x54), (.writeFixtures, 0x60), (.deleteFixture, 0x61), (.beginScene, 0x62), (.sceneEntries, 0x63),
   (.deleteScene, 0x64), (.setLightMaster, 0x65), (.readFixtures, 0x66), (.readScene, 0x67), (.setLine, 0x70),
   (.readFollow, 0x71), (.clearEvents, 0x78), (.setNotice, 0x79), (.clearFaults, 0x7A), (.readCounters, 0x7B)]

theorem rowTakes_codeRow (e : Entry) : ∀ x ∈ codeRows, rowTakes x.1 e = (e.code == x.2) := by
  intro x hx
  fin_cases hx <;> rfl

theorem commandRow_cases : ∀ i ∈ commandRows,
    i = .unknownCommand ∨ i = .softReset ∨ i = .tablesReset ∨ ∃ x ∈ codeRows, x.1 = i := by decide

theorem codeRow_command : ∀ x ∈ codeRows, x.1 ∈ commandRows ∧ x.2 ∈ catalogue ∧ x.2 ≠ 0x04 := by decide

theorem catalogue_cases : ∀ c ∈ catalogue, c = 0x04 ∨ ∃ x ∈ codeRows, x.2 = c := by decide

theorem codeRow_unique : ∀ x ∈ codeRows, ∀ y ∈ codeRows, x.2 = y.2 → x.1 = y.1 := by decide

/-- R166, log 3: the row a command has, by its code and, for RESET_UNIT, its kind. -/
theorem rowTakes_unique {e : Entry} {i j : Instr} (hi : i ∈ commandRows) (hj : j ∈ commandRows)
    (hti : rowTakes i e = true) (htj : rowTakes j e = true) : j = i := by
  have hclass : ∀ k ∈ commandRows, rowTakes k e = true →
      (k = .unknownCommand ∧ e.code ∉ catalogue)
        ∨ (k = .softReset ∧ e.code = 0x04 ∧ u8 e.payload 0 ≠ 1)
        ∨ (k = .tablesReset ∧ e.code = 0x04 ∧ u8 e.payload 0 = 1)
        ∨ ∃ x ∈ codeRows, x.1 = k ∧ e.code = x.2 := by
    intro k hk ht
    obtain rfl | rfl | rfl | ⟨x, hx, rfl⟩ := commandRow_cases k hk
    · exact .inl ⟨rfl, by simpa [rowTakes] using ht⟩
    · exact .inr (.inl ⟨rfl, by simpa [rowTakes, namesSoft] using ht⟩)
    · exact .inr (.inr (.inl ⟨rfl, by simpa [rowTakes, namesTables] using ht⟩))
    · rw [rowTakes_codeRow e x hx] at ht
      exact .inr (.inr (.inr ⟨x, hx, rfl, eq_of_beq ht⟩))
  have hreset : (0x04 : Byte) ∈ catalogue := by decide
  obtain ⟨rfl, hni⟩ | ⟨rfl, hci, hki⟩ | ⟨rfl, hci, hki⟩ | ⟨x, hx, rfl, hci⟩ := hclass i hi hti <;>
    obtain ⟨rfl, hnj⟩ | ⟨rfl, hcj, hkj⟩ | ⟨rfl, hcj, hkj⟩ | ⟨y, hy, rfl, hcj⟩ := hclass j hj htj
  · rfl
  · exact absurd (hcj ▸ hreset) hni
  · exact absurd (hcj ▸ hreset) hni
  · exact absurd (hcj ▸ (codeRow_command y hy).2.1) hni
  · exact absurd (hci ▸ hreset) hnj
  · rfl
  · exact absurd hkj hki
  · exact absurd (hcj.symm.trans hci) (codeRow_command y hy).2.2
  · exact absurd (hci ▸ hreset) hnj
  · exact absurd hki hkj
  · rfl
  · exact absurd (hcj.symm.trans hci) (codeRow_command y hy).2.2
  · exact absurd (hci ▸ (codeRow_command x hx).2.1) hnj
  · exact absurd (hci.symm.trans hcj) (codeRow_command x hx).2.2
  · exact absurd (hci.symm.trans hcj) (codeRow_command x hx).2.2
  · exact codeRow_unique y hy x hx (hcj.symm.trans hci)

theorem exists_row (e : Entry) : ∃ i ∈ commandRows, rowTakes i e = true := by
  by_cases hc : e.code ∈ catalogue
  · obtain h4 | ⟨x, hx, hcode⟩ := catalogue_cases e.code hc
    · by_cases hk : u8 e.payload 0 = 1
      · exact ⟨.tablesReset, by decide, by simp [rowTakes, namesTables, h4, hk]⟩
      · exact ⟨.softReset, by decide, by simp [rowTakes, namesSoft, h4, hk]⟩
    · exact ⟨x.1, (codeRow_command x hx).1, by rw [rowTakes_codeRow e x hx, hcode]; simp⟩
  · exact ⟨.unknownCommand, by decide, by simpa [rowTakes] using hc⟩

/-- Settles O6. -/
theorem commandRowsTakeTheirOwn : Obligations.CommandRowsTakeTheirOwn := by
  refine ⟨fun e => ?_, fun i hi s => ?_⟩
  · obtain ⟨i, hi, ht⟩ := exists_row e
    exact ⟨i, hi, ht, fun j hj htj => rowTakes_unique hi hj ht htj⟩
  · obtain ⟨run, hrun⟩ := exec_command i hi s
    rw [hrun]
    exact ⟨takeCommand_idle, fun e rest hq => ⟨takeCommand_other hq, takeCommand_waits hq⟩⟩

/-! ## The checks of code, length and guard (R166) -/

theorem needCount_neg {i head size : Nat} {p : List Byte} {s : State} {k : Taken}
    (h : p.length ≤ i ∨ p.length ≠ head + size * u8 p i) : needCount i head size p s k = refuse .badLength s := by
  unfold needCount
  rw [if_neg]
  rintro ⟨hi, hlen⟩
  exact h.elim (fun h => absurd hi (by omega)) fun h => h hlen

section
variable {s : State} {e : Entry} {rest : List Entry} (h : Takes s e rest)
include h

/-- Table 12-11: a row of fixed length checks its length before anything else. -/
theorem exec_fixedLength : ∀ x ∈ fixedLengths, rowTakes x.1 e = true →
    ∃ k, exec x.1 s = .next (answer e (needLength x.2 e.payload (beginCommand e rest s) k)) := by
  intro x hx ht
  fin_cases hx
  · exact ⟨_, exec_readIdentity h (eq_of_beq ht)⟩
  · exact ⟨_, exec_readStatus h (eq_of_beq ht)⟩
  · exact ⟨_, exec_setAddresses h (eq_of_beq ht)⟩
  · exact ⟨_, exec_softReset h ht⟩
  · exact ⟨_, exec_tablesReset h ht⟩
  · exact ⟨_, exec_setInput h (eq_of_beq ht)⟩
  · exact ⟨_, exec_setOutput h (eq_of_beq ht)⟩
  · exact ⟨_, exec_readInput h (eq_of_beq ht)⟩
  · exact ⟨_, exec_writeCurve h (eq_of_beq ht)⟩
  · exact ⟨_, exec_setLookFields h (eq_of_beq ht)⟩
  · exact ⟨_, exec_clearStaged h (eq_of_beq ht)⟩
  · exact ⟨_, exec_copyActive h (eq_of_beq ht)⟩
  · exact ⟨_, exec_checkLook h (eq_of_beq ht)⟩
  · exact ⟨_, exec_readLook h (eq_of_beq ht)⟩
  · exact ⟨_, exec_writeTileType h (eq_of_beq ht)⟩
  · exact ⟨_, exec_setChain h (eq_of_beq ht)⟩
  · exact ⟨_, exec_restartChain h (eq_of_beq ht)⟩
  · exact ⟨_, exec_readRoster h (eq_of_beq ht)⟩
  · exact ⟨_, exec_setMaster h (eq_of_beq ht)⟩
  · exact ⟨_, exec_setThermal h (eq_of_beq ht)⟩
  · exact ⟨_, exec_readThermal h (eq_of_beq ht)⟩
  · exact ⟨_, exec_addCue h (eq_of_beq ht)⟩
  · exact ⟨_, exec_cancelCue h (eq_of_beq ht)⟩
  · exact ⟨_, exec_clearCues h (eq_of_beq ht)⟩
  · exact ⟨_, exec_readCues h (eq_of_beq ht)⟩
  · exact ⟨_, exec_setGuard h (eq_of_beq ht)⟩
  · exact ⟨_, exec_deleteFixture h (eq_of_beq ht)⟩
  · exact ⟨_, exec_beginScene h (eq_of_beq ht)⟩
  · exact ⟨_, exec_deleteScene h (eq_of_beq ht)⟩
  · exact ⟨_, exec_setLightMaster h (eq_of_beq ht)⟩
  · exact ⟨_, exec_readFixtures h (eq_of_beq ht)⟩
  · exact ⟨_, exec_readScene h (eq_of_beq ht)⟩
  · exact ⟨_, exec_setLine h (eq_of_beq ht)⟩
  · exact ⟨_, exec_readFollow h (eq_of_beq ht)⟩
  · exact ⟨_, exec_clearEvents h (eq_of_beq ht)⟩
  · exact ⟨_, exec_setNotice h (eq_of_beq ht)⟩
  · exact ⟨_, exec_clearFaults h (eq_of_beq ht)⟩
  · exact ⟨_, exec_readCounters h (eq_of_beq ht)⟩

/-- Table 12-11: a row whose payload carries a count checks its length before anything else. -/
theorem exec_countedLength : ∀ x ∈ countedLengths, rowTakes x.row e = true →
    ∃ k, exec x.row s = .next (answer e (needCount x.place x.head x.size e.payload (beginCommand e rest s) k)) := by
  intro x hx ht
  fin_cases hx
  · exact ⟨_, exec_writeTiles h (eq_of_beq ht)⟩
  · exact ⟨_, exec_writeProfiles h (eq_of_beq ht)⟩
  · exact ⟨_, exec_writeRegions h (eq_of_beq ht)⟩
  · exact ⟨_, exec_writeFixtures h (eq_of_beq ht)⟩
  · exact ⟨_, exec_sceneEntries h (eq_of_beq ht)⟩

/-- Table 7-5, R166: a guarded row of fixed length asks for the guard right behind the length. -/
theorem exec_guarded {i : Instr} (hi : i ∈ guardedRows) (hw : i ≠ .writeFixtures) (ht : rowTakes i e = true) :
    ∃ n k, (i, n) ∈ fixedLengths
      ∧ exec i s = .next (answer e (needLength n e.payload (beginCommand e rest s)
          (needUnguarded (beginCommand e rest s) k))) := by
  fin_cases hi
  · exact ⟨_, _, by decide, exec_softReset h ht⟩
  · exact ⟨_, _, by decide, exec_tablesReset h ht⟩
  · exact ⟨_, _, by decide, exec_setInput h (eq_of_beq ht)⟩
  · exact ⟨_, _, by decide, exec_setOutput h (eq_of_beq ht)⟩
  · exact ⟨_, _, by decide, exec_writeTileType h (eq_of_beq ht)⟩
  · exact ⟨_, _, by decide, exec_setChain h (eq_of_beq ht)⟩
  · exact ⟨_, _, by decide, exec_restartChain h (eq_of_beq ht)⟩
  · exact ⟨_, _, by decide, exec_clearCues h (eq_of_beq ht)⟩
  · exact absurd rfl hw
  · exact ⟨_, _, by decide, exec_deleteFixture h (eq_of_beq ht)⟩
  · exact ⟨_, _, by decide, exec_setLine h (eq_of_beq ht)⟩

end

/-- Settles O8. -/
theorem codesAndLengthsAreChecked : Obligations.CodesAndLengthsAreChecked := by
  intro s e rest h
  refine ⟨fun hc => exec_unknownCommand h (by simpa using hc), fun x hx ht hlen => ?_, fun x hx ht hlen => ?_⟩
  · obtain ⟨k, hk⟩ := exec_fixedLength h x hx ht
    rw [hk, needLength_neg hlen]
  · obtain ⟨k, hk⟩ := exec_countedLength h x hx ht
    rw [hk, needCount_neg hlen]

/-- Settles O9. -/
theorem guardedCommandsDenied : Obligations.GuardedCommandsDenied := by
  intro s e rest i h hi ht hlen hguard htally
  obtain ⟨hfixed, hcounted⟩ := hlen
  have hg : (beginCommand e rest s).onAirGuard = true := by simp [State.onAirGuard, hguard, htally]
  by_cases hw : i = .writeFixtures
  · subst hw
    obtain ⟨-, hcount⟩ := hcounted { row := .writeFixtures, place := 0, head := 1, size := 12 } (by decide) rfl
    rw [exec_writeFixtures h (eq_of_beq ht)]
    simp only [needUnguarded_neg hg]
    rw [needCount_pos (by decide) hcount]
  · obtain ⟨n, k, hn, hk⟩ := exec_guarded h hi hw ht
    rw [hk, needLength_pos (hfixed n hn), needUnguarded_neg hg]

end Sys2Proof.Machine
end

section
/-! The status byte and the answer of a command (O7). -/

namespace Sys2Proof.Machine

/-! ## The status byte (R177) -/

theorem exists_mem_toList {α : Type} {n : Nat} (v : Vector α n) (p : α → Prop) :
    (∃ a ∈ v.toList, p a) ↔ ∃ i : Fin n, p v[i] := by
  simp only [Vector.mem_toList_iff, Vector.mem_iff_getElem]
  constructor
  · rintro ⟨a, ⟨i, hi, rfl⟩, h⟩
    exact ⟨⟨i, hi⟩, h⟩
  · rintro ⟨i, h⟩
    exact ⟨_, ⟨i.val, i.isLt, rfl⟩, h⟩

theorem anyFailed_iff (s : State) : anyFailed s = true ↔ ∃ c : Fin 8, s.ports[c].state = .failed := by
  simp only [anyFailed, List.any_eq_true, beq_iff_eq]
  exact exists_mem_toList s.ports fun p => p.state = .failed

theorem faultPresent_iff (s : State) :
    faultPresent s = true ↔ (∃ c : Fin 8, s.ports[c].state = .failed)
      ∨ (∃ z : Fin 16, s.thermal.zones[z].state = .shutdown) ∨ s.store.lossActive = true := by
  simp only [faultPresent, Bool.or_eq_true, anyFailed_iff, anyShutdown_iff, or_assoc]

theorem zoneWarning_iff (s : State) :
    zoneWarning s = true ↔
      ∃ z : Fin 16, s.thermal.zones[z].state = .warm ∨ s.thermal.zones[z].state = .hot := by
  simp only [zoneWarning, List.any_eq_true, Bool.or_eq_true, beq_iff_eq]
  exact exists_mem_toList s.thermal.zones fun z => z.state = .warm ∨ z.state = .hot

theorem silentWarning_iff (s : State) :
    silentWarning s = true ↔
      ∃ c : Fin 8, s.ports[c].state = .run ∧ ∃ i : Fin 16, s.ports[c].reports[i].silent = true := by
  have hpos (p : ChainPort) : p.reports.toList.any Position.silent = true ↔ ∃ i : Fin 16, p.reports[i].silent = true :=
    List.any_eq_true.trans (exists_mem_toList p.reports fun r => r.silent = true)
  simp only [silentWarning, List.any_eq_true, Bool.and_eq_true, beq_iff_eq, hpos]
  exact exists_mem_toList s.ports fun p => p.state = .run ∧ ∃ i : Fin 16, p.reports[i].silent = true

theorem limitingWarning_iff (s : State) :
    limitingWarning s = true ↔ ∃ c : Fin 8, s.ports[c].state = .run ∧ s.power.limiters[c].scale < 4096 := by
  simp [limitingWarning]

theorem warningPresent_iff (s : State) :
    warningPresent s = true ↔
      (∃ z : Fin 16, s.thermal.zones[z].state = .warm ∨ s.thermal.zones[z].state = .hot)
        ∨ (∃ c : Fin 8, s.ports[c].state = .run ∧ ∃ i : Fin 16, s.ports[c].reports[i].silent = true)
        ∨ (∃ c : Fin 8, s.ports[c].state = .run ∧ s.power.limiters[c].scale < 4096) ∨ s.timing.ref = .lost := by
  simp only [warningPresent, Bool.or_eq_true, beq_iff_eq, zoneWarning_iff, silentWarning_iff, limitingWarning_iff,
    or_assoc]

/-- Table 11-1. -/
def allSources : List Source :=
  [.formatRejected, .inputLoss, .inputRestored, .refLoss, .refRestored, .checkDone, .swapDone, .swapSkipped, .cueFired,
   .cueLate, .cueActionSkipped, .chainUp, .chainFailed, .rosterChanged, .rosterOverlong, .rosterStale, .tileMismatch,
   .zoneWarm, .zoneHot, .zoneShutdown, .tileSilent, .limiting, .powerHeavy, .sceneReady]

theorem source_of_bit : ∀ g ∈ Group.all, ∀ i < 24, g.sources.getLsbD i = true →
    ∃ x ∈ allSources, x.group = g ∧ x.bit = i := by decide

theorem bit_of_source (x : Source) : x.group ∈ Group.all ∧ x.bit < 24 ∧ x.group.sources.getLsbD x.bit = true := by
  cases x <;> decide

/-- Table 11-1: the mask of a group holds the flags of its events. -/
theorem groupFlag_iff (u : EventUnit) {g : Group} (hg : g ∈ Group.all) :
    (u.flags &&& g.sources != 0) = true ↔ ∃ x : Source, x.group = g ∧ u.has x = true := by
  constructor
  · intro h
    have hne : u.flags &&& g.sources ≠ 0 := by simpa using h
    obtain ⟨i, hi, hbit⟩ : ∃ i < 24, (u.flags &&& g.sources).getLsbD i = true := by
      by_contra hnone
      push Not at hnone
      exact hne (BitVec.eq_of_getLsbD_eq fun i hi => by simpa using hnone i hi)
    rw [BitVec.getLsbD_and, Bool.and_eq_true] at hbit
    obtain ⟨x, -, hx, rfl⟩ := source_of_bit g hg i hi hbit.2
    exact ⟨x, hx, hbit.1⟩
  · rintro ⟨x, rfl, hx⟩
    obtain ⟨-, -, hmask⟩ := bit_of_source x
    rw [bne_iff_ne]
    intro h0
    have hand : (u.flags &&& x.group.sources).getLsbD x.bit = true := by
      rw [BitVec.getLsbD_and, hmask, Bool.and_true]; exact hx
    simp [h0] at hand

theorem attention_iff (u : EventUnit) :
    attention u = true ↔ ∃ x : Source, u.has x = true ∧ u.enabled x.group = true := by
  simp only [attention, List.any_eq_true, Bool.and_eq_true]
  constructor
  · rintro ⟨g, hg, hen, hflag⟩
    obtain ⟨x, rfl, hx⟩ := (groupFlag_iff u hg).mp hflag
    exact ⟨x, hx, hen⟩
  · rintro ⟨x, hx, hen⟩
    obtain ⟨hg, -⟩ := bit_of_source x
    exact ⟨x.group, hg, hen, (groupFlag_iff u hg).mpr ⟨x, rfl, hx⟩⟩

theorem statusBit_getLsbD (b : Bool) {n m : Nat} (hm : m < 8) : (statusBit b n).getLsbD m = (b && decide (m = n)) := by
  cases b
  · simp [statusBit]
  · by_cases h : m = n
    · simp [statusBit, h, show n < 8 by omega]
    · rcases Nat.lt_or_gt_of_ne h with h' | h'
      · simp [statusBit, h, h']
      · simp [statusBit, h, show ¬ m - n = 0 by omega]

/-- R177, Table 12-5: each bit of the status byte. -/
theorem statusByte_getLsbD (s : State) {m : Nat} (hm : m < 8) :
    (statusByte s).getLsbD m =
      ((attention s.events && decide (m = 7)) || (faultPresent s && decide (m = 6)) ||
        (warningPresent s && decide (m = 5)) || (s.looks.staged == .checked && decide (m = 4)) ||
        (s.looks.staged == .checking && decide (m = 3)) || (s.pins.tally && decide (m = 2))) := by
  simp only [statusByte, BitVec.getLsbD_or, statusBit_getLsbD _ hm]

/-! ## Placing a packet -/

theorem startSend_of_sending {s : State} (h : s.ret.sending.isSome = true) : startSend s = s := by
  obtain ⟨e, -⟩ | ⟨p, own, hs, -⟩ | ⟨q, pass, hs, -⟩ := startSend_cases s
  · exact e
  all_goals simp [hs] at h

theorem startSend_single {s : State} {p : ReturnPacket} (hs : s.ret.sending = none) (ho : s.ret.own = [p])
    (hp : s.ret.pass = []) : startSend s = sendFrom s .own p.bytes [] [] := by
  simp only [startSend, hs, ho, hp]

theorem lookIntake_intake (s : State) :
    (lookIntake s).intake =
      { s.intake with
        executor := if s.intake.headDirect = true ∧ s.ret.free = 0 then .waiting else s.intake.executor } := by
  obtain ⟨e, hno⟩ | ⟨hd, hf, e⟩ := lookIntake_cases s
  · rw [e, if_neg hno]
  · rw [e, if_pos ⟨hd, hf⟩]
    rfl

/-- What sending leaves of the record of the links. -/
theorem startSend_links (s : State) :
    (startSend s).out.through = s.out.through ∧ (startSend s).out.chains = s.out.chains
      ∧ (startSend s).out.lights = s.out.lights := by
  obtain ⟨e, -⟩ | ⟨p, own, -, -, -, e⟩ | ⟨q, pass, -, -, -, e⟩ := startSend_cases s <;> rw [e] <;> exact ⟨rfl, rfl, rfl⟩

/-- R165 to R167: the state a direct command's reply is placed on. -/
def Taken.slotFilled (e : Entry) (t : Taken) : State :=
  { t.state with
    ret := { t.state.ret with reserved := t.state.ret.reserved - 1, own := t.state.ret.own ++ [replyTo e t] } }

theorem answer_direct {e : Entry} (h : e.kind = .direct) (t : Taken) :
    answer e t = lookIntake (startSend (t.slotFilled e)) := by
  simp only [answer, if_pos h, placeOwn, Taken.slotFilled]

theorem answer_silent {e : Entry} (h : e.kind ≠ .direct) (t : Taken) : answer e t = lookIntake t.state := by
  simp only [answer, if_neg h]

theorem answer_intake (e : Entry) (t : Taken) :
    (answer e t).intake =
      { t.state.intake with
        executor :=
          if t.state.intake.headDirect = true ∧ (answer e t).ret.free = 0 then .waiting
          else t.state.intake.executor } := by
  by_cases h : e.kind = .direct
  · rw [answer_direct h, lookIntake_intake, lookIntake_ret, startSend_intake]
    rfl
  · rw [answer_silent h, lookIntake_intake, lookIntake_ret]

theorem answer_links (e : Entry) (t : Taken) :
    (answer e t).ret.drops = t.state.ret.drops ∧ (answer e t).out.through = t.state.out.through
      ∧ (answer e t).out.chains = t.state.out.chains ∧ (answer e t).out.lights = t.state.out.lights := by
  by_cases h : e.kind = .direct
  · rw [answer_direct h, lookIntake_ret, lookIntake_out, startSend_drops]
    exact ⟨rfl, startSend_links _⟩
  · rw [answer_silent h, lookIntake_ret, lookIntake_out]
    exact ⟨rfl, rfl, rfl, rfl⟩

/-- Settles O7. -/
theorem answerPlacesReply : Obligations.AnswerPlacesReply := by
  refine ⟨fun s => ?_, fun e t => ?_⟩
  · simp only [statusByte_getLsbD s (show 7 < 8 by decide), statusByte_getLsbD s (show 6 < 8 by decide),
      statusByte_getLsbD s (show 5 < 8 by decide), statusByte_getLsbD s (show 4 < 8 by decide),
      statusByte_getLsbD s (show 3 < 8 by decide), statusByte_getLsbD s (show 2 < 8 by decide),
      statusByte_getLsbD s (show 1 < 8 by decide), statusByte_getLsbD s (show 0 < 8 by decide)]
    simp [attention_iff, faultPresent_iff, warningPresent_iff]
  · obtain ⟨hdrops, hthrough, hchains, hlights⟩ := answer_links e t
    refine ⟨fun h => answer_silent h t, fun h => ⟨?_, fun hs => ?_, fun hs ho hp => ?_⟩, answer_intake e t, hdrops,
      hthrough, hchains, hlights, ?_⟩
    · rw [answer_direct h, lookIntake_ret, startSend_reserved]
      rfl
    · rw [answer_direct h, lookIntake_ret, lookIntake_out, startSend_of_sending (s := t.slotFilled e) hs]
      exact ⟨rfl, rfl, rfl, rfl⟩
    · rw [answer_direct h, lookIntake_ret, lookIntake_out,
        startSend_single (s := t.slotFilled e) (p := replyTo e t) hs (by simp [Taken.slotFilled, ho]) hp]
      exact ⟨rfl, rfl, rfl, rfl⟩
    · simp

end Sys2Proof.Machine
end

section
/-! Plain and ranged reads, addresses, input and output settings (O10 to O12, O15). -/

namespace Sys2Proof.Machine

/-! ## Plain reads (R20, R110, R170) -/

theorem identityData_eq (p : Pins) :
    identityData p = [0x48, 0x5A, 0x0D, 0x58, 0x02, p.addrStrap.setWidth 8, p.rateStrap.setWidth 8] := by
  simp [identityData, be2, be1, Config.vendorCode, Config.partCode, Config.revisionCode]

/-- Settles O10. -/
theorem plainReadsReport : Obligations.PlainReadsReport := by
  intro s e rest h hp t
  have hlen : e.payload.length = 0 := by simp [hp]
  refine ⟨fun hc => ?_, fun hc => ?_, fun hc => ?_, fun hc => ?_⟩
  · simp only [exec_readIdentity h hc, needLength_pos hlen, beginCommand_pins, identityData_eq]; rfl
  · simp only [exec_readStatus h hc, needLength_pos hlen]; rfl
  · simp only [exec_readInput h hc, needLength_pos hlen]; rfl
  · simp only [exec_readThermal h hc, needLength_pos hlen]; rfl

/-! ## Ranged reads -/

theorem readRangeOk_iff (p : List Byte) (maxCount size : Nat) :
    readRangeOk p maxCount size = true ↔ 1 ≤ u8 p 3 ∧ u8 p 3 ≤ maxCount ∧ u8 p 2 + u8 p 3 ≤ size := by
  simp [readRangeOk, Nat.one_le_iff_ne_zero, and_assoc]

theorem fixtureRangeOk_iff (p : List Byte) :
    fixtureRangeOk p = true ↔ 1 ≤ u8 p 1 ∧ u8 p 1 ≤ 16 ∧ u8 p 0 + u8 p 1 ≤ 96 := by
  simp [fixtureRangeOk, Nat.one_le_iff_ne_zero, and_assoc]

theorem bankOf_eq (p : List Byte) (l : LookStore) :
    bankOf p l = if u8 p 0 = 0 then some l.active else if u8 p 0 = 1 then some l.stagedLook else none := by
  unfold bankOf
  split
  · next h => simp [h]
  · next h => simp [h]
  · next h0 h1 => rw [if_neg h0, if_neg h1]

/-- R37: a tile type id that a present entry of the ACTIVE or of the STAGED bank names. -/
theorem typeInUse_iff (l : LookStore) (id : Nat) :
    typeInUse l id = true ↔
      ∃ j : Fin 128, l.active.tiles[j].present = true ∧ l.active.tiles[j].typeId = id
        ∨ l.stagedLook.tiles[j].present = true ∧ l.stagedLook.tiles[j].typeId = id := by
  rw [exists_or, ← lookNames_iff, ← lookNames_iff, ← Bool.or_eq_true]
  cases hb : l.activeIsBank1 <;> simp [typeInUse, LookStore.active, LookStore.stagedLook, hb, Bool.or_comm]

theorem typeAt_getElem (types : Vector (Option TileType) 8) (i : Fin 8) : typeAt types i.val = types[i] := by
  simp [typeAt]

/-- The entries of a run of a vector given place by place. -/
theorem take_drop_ofFn {α : Type} {size first count : Nat} (f : Nat → α) (h : first + count ≤ size) :
    ((Vector.ofFn fun i : Fin size => f i.val).toList.drop first).take count
      = ((List.range count).map (first + ·)).map f := by
  apply List.ext_getElem
  · simp
    omega
  · intro n h1 h2
    simp

/-- R36: TYPES, whatever bank the payload names. -/
theorem lookData_types {p : List Byte} (l : LookStore) (h : u8 p 1 = 5) :
    lookData p l = if readRangeOk p 8 8 then some (typesData l (u8 p 2) (u8 p 3)) else none := by
  unfold lookData
  rw [h]
  cases bankOf p l <;> rfl

theorem lookData_no_bank {p : List Byte} {l : LookStore} (h : u8 p 1 ≠ 5) (hb : bankOf p l = none) :
    lookData p l = none := by
  unfold lookData
  rw [hb]
  split
  all_goals simp_all

/-- Table 2-6: the five tables of a bank. -/
theorem lookData_bank {p : List Byte} {l : LookStore} {look : Look} (h : u8 p 1 ≠ 5) (hb : bankOf p l = some look) :
    lookData p l =
      if u8 p 1 = 0 then
        if readRangeOk p 63 128 then some ((readRun look.tiles (u8 p 2) (u8 p 3)).flatMap TileEntry.bytes) else none
      else if u8 p 1 = 1 then
        if readRangeOk p 64 64 then some ((readRun look.profiles (u8 p 2) (u8 p 3)).flatMap rgb2) else none
      else if u8 p 1 = 2 then
        if readRangeOk p 1 8 then
          some ((readRun look.curves (u8 p 2) (u8 p 3)).flatMap fun c => c.toList.flatMap be2)
        else none
      else if u8 p 1 = 3 then
        if readRangeOk p 16 16 then some ((readRun look.regions (u8 p 2) (u8 p 3)).flatMap Region.bytes) else none
      else if u8 p 1 = 4 then some (rgb2 look.border ++ be4 look.label.toNat)
      else none := by
  unfold lookData
  rw [hb]
  split
  all_goals simp_all

theorem need_ite (ok : Bool) (r : Result) (s : State) (k : Taken) :
    need ok r s k = if ok = true then k else refuse r s := rfl

theorem needFields_match {α : Type} (fields : Option α) (s : State) (k : α → Taken) :
    needFields fields s k = match fields with | some a => k a | none => refuse .badArgument s := by
  cases fields <;> rfl

/-- Settles O11. -/
theorem rangedReadsReport : Obligations.RangedReadsReport := by
  intro s e rest h t p entries inUse types look asked
  have htypes : 1 ≤ u8 p 3 ∧ u8 p 3 ≤ 8 ∧ u8 p 2 + u8 p 3 ≤ 8 →
      typesData s.looks (u8 p 2) (u8 p 3) = ((types.toList.drop (u8 p 2)).take (u8 p 3)).flatMap id := by
    intro hr
    have hbytes : types = Vector.ofFn fun i : Fin 8 =>
        tileTypeBytes i.val (typeAt s.looks.types i.val) ++ yesNo (typeInUse s.looks i.val) := by
      refine congrArg Vector.ofFn (funext fun i => congrArg₂ (· ++ ·) ?_ ?_)
      · rw [typeAt_getElem]
      · exact if_congr (typeInUse_iff s.looks i.val).symm rfl rfl
    rw [hbytes, take_drop_ofFn (fun n => tileTypeBytes n (typeAt s.looks.types n) ++ yesNo (typeInUse s.looks n)) hr.2.2,
      List.flatMap_id, ← List.flatMap_def, typesData]
  have hdata : lookData p s.looks = asked := by
    have hbank : bankOf p s.looks = look := bankOf_eq p s.looks
    by_cases h5 : u8 p 1 = 5
    · simp only [lookData_types _ h5, asked, if_pos h5, entries, readRangeOk_iff]
      exact ite_congr rfl (fun hr => congrArg some (htypes hr)) fun _ => rfl
    · cases hlook : look with
      | none => simp only [lookData_no_bank h5 (hbank.trans hlook), asked, if_neg h5, hlook]
      | some l =>
        simp only [lookData_bank h5 (hbank.trans hlook), asked, if_neg h5, hlook, entries, readRangeOk_iff, readRun]
  refine ⟨fun hc (hlen : e.payload.length = 4) => ?_, fun hc (hlen : e.payload.length = 1) => ?_,
    fun hc (hlen : e.payload.length = 2) => ?_, fun hc (hlen : e.payload.length = 2) => ?_,
    fun hc (hlen : e.payload.length = 4) => ?_, fun hc (hlen : e.payload.length = 2) => ?_⟩
  · simp only [exec_readLook h hc, needLength_pos hlen, beginCommand_looks, needFields_match]
    rw [show lookData e.payload s.looks = asked from hdata]
    generalize asked = data
    cases data <;> rfl
  · simp only [exec_readRoster h hc, needLength_pos hlen, readChain]
    split <;> rfl
  · simp only [exec_readCues h hc, needLength_pos hlen, need_ite]
    simp only [Bool.and_eq_true, bne_iff_ne, decide_eq_true_eq, Nat.one_le_iff_ne_zero, and_assoc]
    rfl
  · simp only [exec_readFixtures h hc, needLength_pos hlen, need_ite, fixtureRangeOk_iff]
    rfl
  · simp only [exec_readScene h hc, needLength_pos hlen, readSceneNumber]
    by_cases hx : u8 e.payload 0 < 64
    · simp only [dif_pos hx, p, Nat.one_le_iff_ne_zero]
      split <;> rfl
    · simp only [dif_neg hx, ite_self, p]
      rfl
  · simp only [exec_readFollow h hc, needLength_pos hlen, need_ite, fixtureRangeOk_iff]
    rfl

/-! ## Addresses (R163) -/

theorem readAddresses_refused {a b c m : Byte} (i : Intake) (h : a = 0xFF ∨ b = 0xFF ∨ c = 0xFF) :
    readAddresses [a, b, c, m] i = none := by
  unfold readAddresses
  split
  · next ha hb hc =>
    obtain rfl | rfl | rfl := h
    · simp [readSlot] at ha
    · simp [readSlot] at hb
    · simp [readSlot] at hc
  · rfl

theorem readSlot_of_ne {x : Byte} (h : x ≠ 0xFF) : readSlot x = some (if x = 0x00 then none else some x) := by
  rw [readSlot, if_neg h]
  split <;> rfl

/-- Settles O12. -/
theorem setAddressesWritesSlots : Obligations.SetAddressesWritesSlots := by
  intro s e rest a b c m h hc hp t slot
  simp only [exec_setAddresses h hc, hp, needLength_pos (show [a, b, c, m].length = 4 from rfl)]
  split
  · next hbad => rw [readAddresses_refused _ hbad, needFields_none]
  · next hok =>
    push Not at hok
    obtain ⟨ha, hb, hc⟩ := hok
    simp only [readAddresses, List.getD_cons_succ, List.getD_cons_zero, readSlot_of_ne ha, readSlot_of_ne hb,
      readSlot_of_ne hc, needFields_some]
    rfl

/-! ## Input and output settings (R18, R19) -/

theorem readInputFields_ite (p : List Byte) (st : FrameStore) :
    readInputFields p st =
      if 1 ≤ u8 p 1 ∧ u8 p 2 ≤ 1 ∧ u16 p 3 ≤ 4095 ∧ u16 p 5 ≤ 4095 ∧ u16 p 7 ≤ 4095 then
        some { st with
          missingLimit := u8 p 0, holdLimit := u8 p 1, lossAction := if u8 p 2 = 0 then .hold else .fill
          fill := { r := u16 p 3, g := u16 p 5, b := u16 p 7 } }
      else none := by
  unfold readInputFields
  rw [readCode_eq]
  by_cases hcode : u16 p 3 ≤ 4095 ∧ u16 p 5 ≤ 4095 ∧ u16 p 7 ≤ 4095
  · simp [hcode, Nat.one_le_iff_ne_zero]
  · have hall : ¬ (1 ≤ u8 p 1 ∧ u8 p 2 ≤ 1 ∧ u16 p 3 ≤ 4095 ∧ u16 p 5 ≤ 4095 ∧ u16 p 7 ≤ 4095) :=
      fun ⟨_, _, h⟩ => hcode h
    rw [if_neg hcode, if_neg hall]

/-- Settles O15. -/
theorem inputAndOutputSettings : Obligations.InputAndOutputSettings := by
  intro s e rest h hg t p
  have hguard : (beginCommand e rest s).onAirGuard = false := by rw [beginCommand_onAirGuard, hg]
  refine ⟨fun hc (hlen : e.payload.length = 9) => ?_, fun hc (hlen : e.payload.length = 1) => ?_⟩
  · simp only [exec_setInput h hc, needLength_pos hlen, needUnguarded_pos hguard, readInputFields_ite]
    split <;> rfl
  · simp only [exec_setOutput h hc, needLength_pos hlen, needUnguarded_pos hguard, need_ite, decide_eq_true_eq]
    rfl

end Sys2Proof.Machine
end

section
/-! What the two kinds of RESET_UNIT change and leave (O13, O14). -/

namespace Sys2Proof.Machine

/-! ## The command (R166, R171) -/

theorem u8_single (kind : Byte) : u8 [kind] 0 = kind.toNat := rfl

section
variable {s : State} (hg : s.onAirGuard = false)
include hg

theorem resetUnit_soft : resetUnit [0] s = done (softReset s) := by
  rw [resetUnit, needLength_pos List.length_singleton, needUnguarded_pos hg]
  rfl

theorem resetUnit_tables : resetUnit [1] s = done (tablesReset s) := by
  rw [resetUnit, needLength_pos List.length_singleton, needUnguarded_pos hg]
  rfl

theorem resetUnit_other {kind : Byte} (hk : 2 ≤ kind.toNat) : resetUnit [kind] s = refuse .badArgument s := by
  rw [resetUnit, needLength_pos List.length_singleton, needUnguarded_pos hg, u8_single]
  split
  · next h0 => omega
  · next h1 => omega
  · rfl

end

/-! ## What both kinds do -/

theorem LookStore.softReset_eq (l : LookStore) :
    l.softReset =
      { l with
        staged := if l.staged = .checking then .editing else l.staged
        result := if l.staged = .checking then .abandoned else l.result
        checkEnds := if l.staged = .checking then 0 else l.checkEnds } := by
  unfold LookStore.softReset
  split <;> rfl

theorem resetCommon_cleared (s : State) :
    (∀ c ∈ inputCounters (resetCommon s) ++ intakeCounters (resetCommon s), c = Counter.zero)
      ∧ ∀ x : Fin 8, (resetCommon s).ports[x] =
          { s.ports[x] with
            linkErrors := Counter.zero, enumFails := Counter.zero, silentEvents := Counter.zero } := by
  refine ⟨fun c hc => ?_, fun x => mapAll_getElem ..⟩
  simpa [inputCounters, intakeCounters, resetCommon, clearCounters, clearInputCounters, clearIntakeCounters] using hc

theorem softReset_cleared (s : State) :
    (∀ c ∈ inputCounters (softReset s) ++ intakeCounters (softReset s), c = Counter.zero)
      ∧ ∀ x : Fin 8, (softReset s).ports[x] =
          { s.ports[x] with
            linkErrors := Counter.zero, enumFails := Counter.zero, silentEvents := Counter.zero } :=
  resetCommon_cleared s

theorem softReset_fixtures (s : State) (x : Fin 96) :
    (softReset s).lights.fixtures[x] =
      let f := s.lights.fixtures[x]
      { f with i := { f.i with fade := none }, r := { f.r with fade := none }, g := { f.g with fade := none }
               b := { f.b with fade := none } } :=
  mapAll_getElem ..

/-- Settles O13. -/
theorem softResetEffect : Obligations.SoftResetEffect := by
  intro s e rest h hc hg t
  have hguard : t.onAirGuard = false := by rw [beginCommand_onAirGuard, hg]
  refine ⟨fun kind hp hk => ?_, fun hp => ⟨softReset t, ?_, ?_⟩⟩
  · have hsoft : namesSoft e = true := by
      simp only [namesSoft, hc, hp, u8_single, Bool.and_eq_true, bne_iff_ne, beq_self_eq_true, true_and]
      omega
    rw [exec_softReset h hsoft, hp, resetUnit_other hguard hk]
  · have hsoft : namesSoft e = true := by simp [namesSoft, hc, hp, u8_single]
    rw [exec_softReset h hsoft, hp, resetUnit_soft hguard]
  · exact ⟨LookStore.softReset_eq _, rfl, softReset_fixtures t, rfl, rfl, rfl, rfl, rfl, softReset_cleared t, rfl, rfl,
      rfl, rfl, rfl, rfl, rfl, rfl⟩

/-- Settles O14. -/
theorem tablesResetEffect : Obligations.TablesResetEffect := by
  intro s e rest h hc hp hg t
  have hguard : t.onAirGuard = false := by rw [beginCommand_onAirGuard, hg]
  have htables : namesTables e = true := by simp [namesTables, hc, hp, u8_single]
  refine ⟨tablesReset t, by rw [exec_tablesReset h htables, hp, resetUnit_tables hguard],
    ⟨tablesReset_active _, tablesReset_stagedLook _, fun i => ?_, rfl, rfl, rfl⟩,
    ⟨fun x => ⟨?_, ?_⟩, fun x => ?_, ?_, rfl, rfl⟩, rfl, rfl, rfl, rfl, rfl, rfl, resetCommon_cleared t, rfl, rfl, rfl,
    rfl, rfl, rfl, rfl⟩
  · exact Vector.getElem_replicate ..
  · exact Vector.getElem_replicate ..
  · exact Vector.getElem_replicate ..
  · exact Vector.getElem_replicate ..
  · rfl

end Sys2Proof.Machine
end

section
/-! Commands of the look store and of the thermal block (O16, O23, O26). -/

namespace Sys2Proof.Machine

/-! ## Runs of entries (2.5) -/

/-- 2.5, R166: a run is refused with BAD_ARGUMENT where its first index and count or one of its entries is out of
range. -/
theorem needRun_refused {α : Type} {f : List Byte → Option α} {p : List Byte} {maxCount size width : Nat} {s : State}
    {k : List α → Taken}
    (h : ¬ (1 ≤ u8 p 1 ∧ u8 p 1 ≤ maxCount ∧ u8 p 0 + u8 p 1 ≤ size
      ∧ ∀ n < u8 p 1, (f (p.drop (2 + width * n))).isSome = true)) :
    need (runOk p maxCount size) .badArgument s (needFields (readRecords f width (u8 p 1) (p.drop 2)) s k)
      = refuse .badArgument s := by
  rw [need_ite]
  split
  · next hok =>
    obtain ⟨hpos, hmax, hend⟩ := (runOk_iff p maxCount size).mp hok
    obtain ⟨n, hn, hnone⟩ : ∃ n < u8 p 1, (f (p.drop (2 + width * n))).isSome ≠ true := by
      by_contra hall
      push Not at hall
      exact h ⟨hpos, hmax, hend, hall⟩
    rw [readRecords_none hn (by rw [List.drop_drop]; simpa using hnone), needFields_none]
  · rfl

/-- A run in range goes on with its entries. -/
theorem needRun_read {α : Type} {f : List Byte → Option α} {p : List Byte} {maxCount size width : Nat} (s : State)
    (h : 1 ≤ u8 p 1 ∧ u8 p 1 ≤ maxCount ∧ u8 p 0 + u8 p 1 ≤ size
      ∧ ∀ n < u8 p 1, (f (p.drop (2 + width * n))).isSome = true) :
    ∃ xs, xs.length = u8 p 1 ∧ (∀ n < u8 p 1, xs[n]? = f (p.drop (2 + width * n)))
      ∧ ∀ k : List α → Taken,
        need (runOk p maxCount size) .badArgument s (needFields (readRecords f width (u8 p 1) (p.drop 2)) s k) = k xs := by
  obtain ⟨hpos, hmax, hend, hall⟩ := h
  obtain ⟨xs, hread⟩ := readRecords_isSome (f := f) (size := width) (n := u8 p 1) (p := p.drop 2)
    fun n hn => by rw [List.drop_drop]; exact hall n hn
  obtain ⟨hcount, hget⟩ := readRecords_get hread
  refine ⟨xs, hcount, fun n hn => by rw [hget n hn, List.drop_drop], fun k => ?_⟩
  rw [need_eq_self ((runOk_iff p maxCount size).mpr ⟨hpos, hmax, hend⟩), hread, needFields_some]

/-- A run read entry by entry and written: each place of the run holds what its bytes give. -/
theorem writeRun_getElem_read {α : Type} {size count : Nat} {xs : List α} {read : Nat → Option α} (v : Vector α size)
    (first j : Nat) (hj : j < size) (hlen : xs.length = count) (hget : ∀ n < count, xs[n]? = read n) :
    some (writeRun v first xs)[j] = if first ≤ j ∧ j < first + count then read (j - first) else some v[j] := by
  rw [writeRun_getElem]
  by_cases hin : first ≤ j ∧ j < first + count
  · have hlt : j - first < xs.length := by omega
    rw [if_pos hin, if_pos hin.1, ← hget _ (by omega), List.getElem?_eq_getElem hlt, Option.getD_some]
  · rw [if_neg hin]
    split
    · rw [List.getElem?_eq_none (by omega), Option.getD_none]
    · rfl

/-- R29: a run of tiles in range goes on to R28's test with its entries. -/
theorem exec_writeTiles_in_range {s : State} {e : Entry} {rest : List Entry} (h : Takes s e rest) (hc : e.code = 0x20)
    (hlen : e.payload.length = 2 + 16 * u8 e.payload 1)
    (hok : 1 ≤ u8 e.payload 1 ∧ u8 e.payload 1 ≤ 63 ∧ u8 e.payload 0 + u8 e.payload 1 ≤ 128
      ∧ ∀ n < u8 e.payload 1, (readTile (e.payload.drop (2 + 16 * n))).isSome = true) :
    ∃ xs, xs.length = u8 e.payload 1 ∧ (∀ n < u8 e.payload 1, xs[n]? = readTile (e.payload.drop (2 + 16 * n)))
      ∧ exec .writeTiles s =
          .next (answer e (needNotChecking (beginCommand e rest s)
            (writeStaged
              { s.looks.stagedLook with tiles := writeRun s.looks.stagedLook.tiles (u8 e.payload 0) xs }
              (beginCommand e rest s)))) := by
  obtain ⟨xs, hcount, hget, hgo⟩ := needRun_read (beginCommand e rest s) hok
  refine ⟨xs, hcount, hget, ?_⟩
  simp only [exec_writeTiles h hc, needCount_pos (show 1 < 2 by decide) hlen, hgo, beginCommand_looks]

/-- R32: a run of regions in range goes on to R28's test with its entries. -/
theorem exec_writeRegions_in_range {s : State} {e : Entry} {rest : List Entry} (h : Takes s e rest)
    (hc : e.code = 0x23) (hlen : e.payload.length = 2 + 8 * u8 e.payload 1)
    (hok : 1 ≤ u8 e.payload 1 ∧ u8 e.payload 1 ≤ 16 ∧ u8 e.payload 0 + u8 e.payload 1 ≤ 16
      ∧ ∀ n < u8 e.payload 1, (readRegion (e.payload.drop (2 + 8 * n))).isSome = true) :
    ∃ xs, xs.length = u8 e.payload 1 ∧ (∀ n < u8 e.payload 1, xs[n]? = readRegion (e.payload.drop (2 + 8 * n)))
      ∧ exec .writeRegions s =
          .next (answer e (needNotChecking (beginCommand e rest s)
            (writeStaged
              { s.looks.stagedLook with regions := writeRun s.looks.stagedLook.regions (u8 e.payload 0) xs }
              (beginCommand e rest s)))) := by
  obtain ⟨xs, hcount, hget, hgo⟩ := needRun_read (beginCommand e rest s) hok
  refine ⟨xs, hcount, hget, ?_⟩
  simp only [exec_writeRegions h hc, needCount_pos (show 1 < 2 by decide) hlen, hgo, beginCommand_looks]

/-- Settles O16. -/
theorem tileAndRegionRunsWritten : Obligations.TileAndRegionRunsWritten := by
  intro s e rest h t p tilesOk regionsOk
  refine ⟨fun hc hlen => ⟨fun hbad => ?_, fun hok hbusy => ?_⟩, fun hc hlen => ⟨fun hbad => ?_, fun hok hbusy => ?_⟩,
    fun hc hlen hok hfree => ?_, fun hc hlen hok hfree => ?_⟩
  · rw [exec_writeTiles h hc]
    simp only
    rw [needCount_pos (by decide) hlen, needRun_refused hbad]
  · obtain ⟨xs, -, -, hexec⟩ := exec_writeTiles_in_range h hc hlen hok
    exact (stagedWrite_outcomes hexec).1 hbusy
  · rw [exec_writeRegions h hc]
    simp only
    rw [needCount_pos (by decide) hlen, needRun_refused hbad]
  · obtain ⟨xs, -, -, hexec⟩ := exec_writeRegions_in_range h hc hlen hok
    exact (stagedWrite_outcomes hexec).1 hbusy
  · obtain ⟨xs, hcount, hget, hexec⟩ := exec_writeTiles_in_range h hc hlen hok
    obtain ⟨u, hu, hframe, hactive, htypes, hresult, hends, hstaged, hlook⟩ := (stagedWrite_outcomes hexec).2 hfree
    refine ⟨u, hu, hframe, hactive, htypes, hresult, hends, hstaged, by rw [hlook], fun j => ?_⟩
    rw [hlook]
    exact writeRun_getElem_read _ _ _ j.isLt hcount hget
  · obtain ⟨xs, hcount, hget, hexec⟩ := exec_writeRegions_in_range h hc hlen hok
    obtain ⟨u, hu, hframe, hactive, htypes, hresult, hends, hstaged, hlook⟩ := (stagedWrite_outcomes hexec).2 hfree
    refine ⟨u, hu, hframe, hactive, htypes, hresult, hends, hstaged, by rw [hlook], fun j => ?_⟩
    rw [hlook]
    exact writeRun_getElem_read _ _ _ j.isLt hcount hget

/-! ## WRITE_TILE_TYPE (R37) -/

theorem typeInUse_banks (l : LookStore) (id : Nat) :
    typeInUse l id = true ↔
      (∃ j : Fin 128, l.bank0.tiles[j].present = true ∧ l.bank0.tiles[j].typeId = id)
        ∨ ∃ j : Fin 128, l.bank1.tiles[j].present = true ∧ l.bank1.tiles[j].typeId = id := by
  rw [typeInUse, Bool.or_eq_true, lookNames_iff, lookNames_iff]

/-- Settles O23. -/
theorem tileTypeWritten : Obligations.TileTypeWritten := by
  intro s e rest h hc hlen hg t p named
  have hguard : (beginCommand e rest s).onAirGuard = false := by rw [beginCommand_onAirGuard, hg]
  have hexec := exec_writeTileType h hc
  simp only [needLength_pos hlen, needUnguarded_pos hguard, beginCommand_looks] at hexec
  refine ⟨fun hbad => ?_, fun entry hid hread => ⟨fun hnamed => ?_, fun hfree => ?_⟩⟩
  · obtain hid | hnone := hbad
    · rw [hexec, need_eq_refuse (decide_eq_false (Nat.not_le.mpr hid))]
    · rw [hexec, show readTileType e.payload = none from hnone, needFields_none, need_ite, ite_self]
  · rw [hexec, need_eq_self (decide_eq_true hid), show readTileType e.payload = some entry from hread, needFields_some,
      need_eq_refuse (by rw [(typeInUse_banks s.looks (u8 e.payload 0)).mpr hnamed]; rfl)]
  · refine ⟨{ t with looks := { s.looks with types := writeRun s.looks.types (u8 e.payload 0) [entry] } }, ?_, rfl, rfl,
      fun j => writeRun_singleton_getElem _ _ _ _ j.isLt⟩
    have hnot : typeInUse s.looks (u8 e.payload 0) = false :=
      Bool.eq_false_iff.mpr (mt (typeInUse_banks s.looks (u8 e.payload 0)).mp hfree)
    rw [hexec, need_eq_self (decide_eq_true hid), show readTileType e.payload = some entry from hread, needFields_some,
      need_eq_self (by rw [hnot]; rfl)]

/-! ## SET_THERMAL (R108, R109) -/

theorem readThermalConfig_ite (p : List Byte) :
    readThermalConfig p =
      if -40 ≤ s16 p 0 ∧ s16 p 0 < s16 p 2 ∧ s16 p 2 < s16 p 4 ∧ s16 p 4 ≤ 150 ∧ u8 p 6 ≤ 63 ∧ 1 ≤ u8 p 7
          ∧ u16 p 8 ≤ 4096 ∧ 1 ≤ u16 p 10 ∧ u16 p 10 ≤ 4096 ∧ u8 p 12 ≤ 1 ∧ u8 p 13 ≤ 1 then
        some
          { warnLow := s16 p 0, warnHigh := s16 p 2, shutdown := s16 p 4, hysteresis := u8 p 6, deglitch := u8 p 7
            derate := u16 p 8, recoveryStep := u16 p 10, response := if u8 p 12 = 0 then .zone else .global
            recovery := if u8 p 13 = 0 then .auto else .latched }
      else none := by
  unfold readThermalConfig
  rw [responseOf_eq, recoveryOf_eq]
  by_cases h12 : u8 p 12 ≤ 1
  · by_cases h13 : u8 p 13 ≤ 1
    · simp only [if_pos h12, if_pos h13]
      refine if_congr ?_ rfl rfl
      simp only [thresholdOk, Bool.and_eq_true, decide_eq_true_eq]
      omega
    · simp [h13]
  · simp [h12]

theorem setThermal_zones (cfg : ThermalConfig) (t : Thermal) (z : Fin 16) :
    (setThermal cfg t).zones[z] =
      if cfg.response = .global ∧ ∃ y : Fin 16, t.zones[y].state = .shutdown then { t.zones[z] with scale := 0 }
      else t.zones[z] := by
  simp only [setThermal, anyShutdown_iff]
  split
  · exact mapAll_getElem ..
  · rfl

/-- Settles O26. -/
theorem setThermalWritesConfiguration : Obligations.SetThermalWritesConfiguration := by
  intro s e rest h hc hlen t p inRange
  have hexec := exec_setThermal h hc
  simp only [needLength_pos hlen, readThermalConfig_ite] at hexec
  refine ⟨fun hbad => ?_, fun hok => ?_⟩
  · rw [hexec, if_neg hbad, needFields_none]
  · rw [if_pos hok, needFields_some] at hexec
    refine ⟨_, hexec, rfl, rfl, fun z => ?_⟩
    have hresponse : (if u8 p 12 = 0 then Response.zone else .global) = .global ↔ u8 p 12 = 1 := by
      obtain ⟨-, -, -, -, -, -, -, -, -, h12, -⟩ := hok
      split
      · next h0 => simp [h0]
      · next h0 => simp; omega
    simp only [setThermal_zones, hresponse, beginCommand_thermal, p]

end Sys2Proof.Machine
end

section
/-! Commands of the cue engine, the masters, the guard and the light lines (O27 to O29). -/

namespace Sys2Proof.Machine

/-! ## ADD_CUE (R115, R117 to R119) -/

theorem horizonOk_eq_false_iff (frame : BitVec 32) (tr : Trigger) :
    horizonOk frame tr = false ↔
      ∃ n, tr = .atFrame n ∧ (frame - n).toNat ≥ 2 ^ 31 ∧ (n - frame).toNat > 16777216 := by
  cases tr <;> simp [horizonOk, atOrBelow, Config.cueHorizon]

theorem cueLate_iff (ended : Option (BitVec 32)) (tr : Trigger) :
    cueLate ended tr = true ↔ ∃ n m, tr = .atFrame n ∧ ended = some m ∧ (m + 1 - n).toNat < 2 ^ 31 := by
  cases tr <;> cases ended <;> simp [cueLate, atOrBelow]

theorem hasCue_eq_false_iff (id : Nat) (q : List Cue) : hasCue id q = false ↔ ∀ d ∈ q, d.id ≠ id := by
  simp [← Bool.not_eq_true, hasCue_iff]

/-- Settles O27. -/
theorem addCuePlacesCue : Obligations.AddCuePlacesCue := by
  intro s e rest h hc hlen t
  have hexec := exec_addCue h hc
  simp only [needLength_pos hlen, need_ite, decide_eq_true_eq, Bool.not_eq_true', Config.cueSize] at hexec
  refine ⟨fun hnone => by rw [hexec, hnone, needFields_none], ?_⟩
  intro c hread tooFar late
  rw [hread, needFields_some] at hexec
  have hnear (hfar : ¬ tooFar) : horizonOk (beginCommand e rest s).timing.frame c.trigger = true := by
    rw [← Bool.not_eq_false, horizonOk_eq_false_iff]; exact hfar
  have hcount : (beginCommand e rest s).cues.queue.length = s.cues.queue.length := by rw [beginCommand_cues]
  have hplaced (hfar : ¬ tooFar) (hroom : s.cues.queue.length < 32) (hnew : ∀ d ∈ s.cues.queue, d.id ≠ c.id) :
      exec .addCue s = .next (answer e (placeCue c t)) := by
    rw [hexec, if_pos (hnear hfar), if_pos (hcount ▸ hroom),
      if_pos ((hasCue_eq_false_iff c.id (beginCommand e rest s).cues.queue).mpr hnew)]
  refine ⟨fun hfar => ?_, fun hfar hfull => ?_, fun hfar hroom hdup => ?_, fun hfar hroom hnew hlate => ?_,
    fun hfar hroom hnew hlate => ?_⟩
  · have hno : ¬ horizonOk (beginCommand e rest s).timing.frame c.trigger = true := by
      rw [Bool.not_eq_true, horizonOk_eq_false_iff]; exact hfar
    rw [hexec, if_neg hno]
  · rw [hexec, if_pos (hnear hfar), if_neg (hcount ▸ Nat.not_lt.mpr hfull)]
  · have hno : ¬ hasCue c.id (beginCommand e rest s).cues.queue = false := by
      rw [Bool.not_eq_false, hasCue_iff]; exact hdup
    rw [hexec, if_pos (hnear hfar), if_pos (hcount ▸ hroom), if_neg hno]
  · rw [hplaced hfar hroom hnew, placeCue, if_neg (mt (cueLate_iff t.cues.ended c.trigger).mp hlate)]
    rfl
  · refine ⟨_, ?_, ?_, raise_has .cueLate (appendCue { c with trigger := .next } t), ?_, ?_, ?_, ?_⟩
    · rw [hplaced hfar hroom hnew, placeCue, if_pos ((cueLate_iff t.cues.ended c.trigger).mpr hlate)]
    · rw [raise_cues]; rfl
    · rw [raise_looks]; rfl
    · rw [raise_power]; rfl
    · rw [raise_lights]; rfl
    · rw [raise_timing]; rfl

/-- Settles O28. -/
theorem cuesRemoved : Obligations.CuesRemoved := by
  intro s e rest h t p
  refine ⟨fun hc (hlen : e.payload.length = 2) => ?_, fun hc (hp : e.payload = []) hg => ?_⟩
  · have hmem : u16 p 0 ∈ s.cues.queue.map Cue.id ↔ hasCue (u16 e.payload 0) s.cues.queue = true := by
      rw [hasCue_iff, List.mem_map]
    simp only [exec_cancelCue h hc, needLength_pos hlen, need_ite, beginCommand_cues, hmem, bne_iff_ne]
    by_cases h0 : u16 e.payload 0 = 0
    · rw [if_pos h0, if_neg (not_not_intro h0)]
    · rw [if_neg h0, if_pos h0]
      rfl
  · have hlen : e.payload.length = 0 := by rw [hp]; rfl
    have hguard : (beginCommand e rest s).onAirGuard = false := by rw [beginCommand_onAirGuard, hg]
    simp only [exec_clearCues h hc, needLength_pos hlen, needUnguarded_pos hguard]
    rfl

/-! ## Masters, guard and lines (R84, R85, R128, R142, R156) -/

theorem readLineConfig_none {p : List Byte} (h : 3 < u8 p 0 ∨ 1 < u8 p 1 ∨ u16 p 2 = 0 ∨ 320 < u16 p 2) :
    readLineConfig p = none := by
  unfold readLineConfig
  rw [readYesNo_eq]
  by_cases h1 : u8 p 1 ≤ 1
  · rw [if_pos h1]
    by_cases h0 : u8 p 0 < 4
    · simp only [dif_pos h0]
      rw [if_neg (by omega)]
    · simp only [dif_neg h0]
  · rw [if_neg h1]

theorem readLineConfig_some {p : List Byte} (h0 : u8 p 0 < 4) (h1 : u8 p 1 ≤ 1) (hlow : 1 ≤ u16 p 2)
    (hhigh : u16 p 2 ≤ 320) :
    readLineConfig p = some (⟨u8 p 0, h0⟩, { enable := u8 p 1 == 1, slots := u16 p 2 }) := by
  unfold readLineConfig
  rw [readYesNo_eq, if_pos h1]
  simp only [dif_pos h0]
  rw [if_pos ⟨hlow, hhigh⟩]

/-- Settles O29. -/
theorem masterGuardAndLineSettings : Obligations.MasterGuardAndLineSettings := by
  intro s e rest h t p begun
  refine ⟨fun hc (hlen : e.payload.length = 4) => ?_, fun hc (hlen : e.payload.length = 4) => ?_,
    fun hc (hlen : e.payload.length = 1) => ?_,
    fun hc (hlen : e.payload.length = 4) hg => ⟨fun hbad => ?_, fun h0 h1 hlow hhigh => ?_⟩⟩
  · simp only [exec_setMaster h hc, needLength_pos hlen, need_ite, decide_eq_true_eq]
    rfl
  · simp only [exec_setLightMaster h hc, needLength_pos hlen, need_ite, decide_eq_true_eq]
    rfl
  · simp only [exec_setGuard h hc, needLength_pos hlen, readYesNo_eq]
    split <;> rfl
  · have hguard : (beginCommand e rest s).onAirGuard = false := by rw [beginCommand_onAirGuard, hg]
    simp only [exec_setLine h hc, needLength_pos hlen, needUnguarded_pos hguard, readLineConfig_none (p := e.payload) hbad,
      needFields_none]
    rfl
  · have hguard : (beginCommand e rest s).onAirGuard = false := by rw [beginCommand_onAirGuard, hg]
    have hline : u8 p 0 < 4 := by omega
    have hexec := exec_setLine h hc
    simp only [needLength_pos hlen, needUnguarded_pos hguard,
      readLineConfig_some (p := e.payload) hline h1 hlow hhigh, needFields_some] at hexec
    refine ⟨_, hexec, rfl, fun l => ?_⟩
    simp only [beginCommand_follow, Fin.getElem_fin, Vector.getElem_set]
    simp only [eq_comm (a := u8 e.payload 0), p]

end Sys2Proof.Machine
end

section
/-! Commands of the lighting block (O30 to O32). -/

namespace Sys2Proof.Machine

/-! ## The tests of WRITE_FIXTURES and SCENE_ENTRIES -/

/-- A list of records of which one has a field out of range is refused, whatever follows. -/
theorem needFields_bad_record {α : Type} {f : List Byte → Option α} {width count : Nat} {p : List Byte} {s : State}
    {k : List α → Taken} (h : ∃ n < count, f (p.drop (width * n)) = none) :
    needFields (readRecords f width count p) s k = refuse .badArgument s := by
  obtain ⟨n, hn, hnone⟩ := h
  rw [readRecords_none hn hnone, needFields_none]

theorem countOk_iff (n most : Nat) : (n != 0 && decide (n ≤ most)) = true ↔ 1 ≤ n ∧ n ≤ most := by
  simp [Nat.one_le_iff_ne_zero]

/-! ## Fixtures (R131 to R134) -/

theorem anyConflict_iff (t : Vector Fixture 96) :
    anyConflict t = true ↔ ∃ i j : Fin 96, i < j ∧ footprintsMeet t[i] t[j] = true := by
  simp [anyConflict]

section
variable {s : State} {e : Entry} {rest : List Entry} (h : Takes s e rest) (hc : e.code = 0x60)
  (hg : s.onAirGuard = false) (hlen : e.payload.length = 1 + 12 * u8 e.payload 0)
include h hc hg hlen

theorem exec_writeFixtures_unguarded :
    exec .writeFixtures s = .next (answer e
      (need (u8 e.payload 0 != 0 && decide (u8 e.payload 0 ≤ 16)) .badArgument (beginCommand e rest s) <|
        needFields (readRecords readFixture 12 (u8 e.payload 0) (e.payload.drop 1)) (beginCommand e rest s) fun records =>
          need (decide (records.map Prod.fst).Nodup) .duplicate (beginCommand e rest s) <|
            need (!anyConflict (writtenTable s.lights.fixtures records)) .conflict (beginCommand e rest s) <|
              done (writeFixtures records (beginCommand e rest s)))) := by
  have hguard : (beginCommand e rest s).onAirGuard = false := by rw [beginCommand_onAirGuard, hg]
  rw [exec_writeFixtures h hc]
  simp only [needUnguarded_pos hguard, beginCommand_lights]
  rw [needCount_pos (by decide) hlen]

/-- R132: the fields in range, the tests of the list follow. -/
theorem exec_writeFixtures_records {records : List (Fin 96 × Fixture)} (hpos : 1 ≤ u8 e.payload 0)
    (hmax : u8 e.payload 0 ≤ 16) (hread : readRecords readFixture 12 (u8 e.payload 0) (e.payload.drop 1) = some records) :
    exec .writeFixtures s = .next (answer e
      (need (decide (records.map Prod.fst).Nodup) .duplicate (beginCommand e rest s) <|
        need (!anyConflict (writtenTable s.lights.fixtures records)) .conflict (beginCommand e rest s) <|
          done (writeFixtures records (beginCommand e rest s)))) := by
  rw [exec_writeFixtures_unguarded h hc hg hlen, need_eq_self ((countOk_iff _ _).mpr ⟨hpos, hmax⟩), hread,
    needFields_some]

end

/-- R133: what a record writes over a present fixture. -/
theorem Fixture.rewrite_present_eq {old : Fixture} (h : old.present = true) (new : Fixture) :
    old.rewrite new = { new with followOn := old.followOn, i := old.i, r := old.r, g := old.g, b := old.b } :=
  if_pos h

theorem Fixture.rewrite_absent {old : Fixture} (h : old.present = false) (new : Fixture) : old.rewrite new = new :=
  if_neg (by simp [h])

section
variable {s : State} {records : List (Fin 96 × Fixture)}

theorem writeFixtures_other (hn : (records.map Prod.fst).Nodup) {x : Fin 96} (hx : x ∉ records.map Prod.fst) :
    (writeFixtures records s).lights.fixtures[x] = s.lights.fixtures[x]
      ∧ (writeFixtures records s).follow.values[x] = s.follow.values[x] := by
  have hne : ∀ y ∈ records, y.1 ≠ x := fun y hy heq => hx (heq ▸ List.mem_map_of_mem hy)
  refine ⟨(writtenTable_getElem s.lights.fixtures hn x).2 hne, ?_⟩
  refine (writtenValues_getElem s.lights.fixtures s.follow.values records x).trans (if_neg ?_)
  rintro ⟨⟨y, hy, heq⟩, -⟩
  exact hne y hy heq

theorem writeFixtures_record (hn : (records.map Prod.fst).Nodup) {r : Fin 96 × Fixture} (hr : r ∈ records) :
    (writeFixtures records s).lights.fixtures[r.1] = s.lights.fixtures[r.1].rewrite r.2
      ∧ (writeFixtures records s).follow.values[r.1] =
          if s.lights.fixtures[r.1].present = false then Rgb.all 0 else s.follow.values[r.1] := by
  refine ⟨(writtenTable_getElem s.lights.fixtures hn r.1).1 r hr rfl, ?_⟩
  refine (writtenValues_getElem s.lights.fixtures s.follow.values records r.1).trans ?_
  simp only [show (∃ y ∈ records, y.1 = r.1) from ⟨r, hr, rfl⟩, true_and]

end

theorem deleteFixture_getElem (s : State) (x y : Fin 96) :
    (deleteFixture x s).lights.fixtures[y] = (if y = x then Fixture.powerOn else s.lights.fixtures[y])
      ∧ (deleteFixture x s).follow.values[y] = (if y = x then Rgb.all 0 else s.follow.values[y]) := by
  simp only [deleteFixture, State.setFollowValue_lights, State.modifyFixture_lights, State.setFollowValue_follow,
    State.modifyFixture_follow, Fin.getElem_fin, modifyAt_getElem, Vector.getElem_set, Fin.ext_iff]
  exact ⟨trivial, by simp only [eq_comm]⟩

/-- Settles O30. -/
theorem fixturesWrittenAndDeleted : Obligations.FixturesWrittenAndDeleted := by
  intro s e rest h hg t p
  refine ⟨fun hc _ hlen hbad => ?_, fun hc _ hlen hpos hmax records hread => ⟨fun hdup => ?_, fun hn hmeet => ?_,
    fun hn hclear => ?_⟩, fun hc (hlen : e.payload.length = 1) => ?_⟩
  · rw [exec_writeFixtures_unguarded h hc hg hlen, need_ite]
    split
    · next hok =>
      obtain ⟨hpos, hmax⟩ := (countOk_iff _ _).mp hok
      obtain h0 | h16 | ⟨k, hk, hnone⟩ := hbad
      · exact absurd h0 (Nat.ne_of_gt hpos)
      · exact absurd h16 (Nat.not_lt.mpr hmax)
      · rw [needFields_bad_record ⟨k, hk, by rw [List.drop_drop]; exact hnone⟩]
    · rfl
  · rw [exec_writeFixtures_records h hc hg hlen hpos hmax hread, need_eq_refuse (decide_eq_false hdup)]
  · rw [exec_writeFixtures_records h hc hg hlen hpos hmax hread, need_eq_self (decide_eq_true hn),
      need_eq_refuse (by rw [(anyConflict_iff _).mpr hmeet]; rfl)]
  · refine ⟨writeFixtures records t, ?_, rfl, fun x hx => writeFixtures_other hn hx, fun r hr hp => ?_,
      fun r hr hp => ?_⟩
    · rw [exec_writeFixtures_records h hc hg hlen hpos hmax hread, need_eq_self (decide_eq_true hn),
        need_eq_self (by rw [(anyConflict_eq_false_iff _).mpr hclear]; rfl)]
    · obtain ⟨hfix, hval⟩ := writeFixtures_record (s := t) hn hr
      exact ⟨hfix.trans (Fixture.rewrite_absent hp r.2), hval.trans (if_pos hp)⟩
    · obtain ⟨hfix, hval⟩ := writeFixtures_record (s := t) hn hr
      exact ⟨hval.trans (if_neg (by rw [show t.lights.fixtures[r.1].present = true from hp]; decide)),
        hfix.trans (Fixture.rewrite_present_eq hp r.2)⟩
  · have hguard : (beginCommand e rest s).onAirGuard = false := by rw [beginCommand_onAirGuard, hg]
    have hexec := exec_deleteFixture h hc
    simp only [needLength_pos hlen, needUnguarded_pos hguard] at hexec
    refine ⟨fun hbad => ?_, fun x hx => ?_⟩
    · rw [hexec, dif_neg (show ¬ u8 e.payload 0 < 96 from Nat.not_lt.mpr hbad), needFields_none]
    · have hlt : u8 e.payload 0 < 96 := lt_of_eq_of_lt hx x.isLt
      have hfin : (⟨u8 e.payload 0, hlt⟩ : Fin 96) = x := Fin.ext hx
      rw [dif_pos hlt, hfin, needFields_some, beginCommand_lights] at hexec
      refine ⟨fun habsent => by rw [hexec, need_eq_refuse habsent], fun hpresent => ⟨deleteFixture x t, ?_, rfl,
        fun y => deleteFixture_getElem t x y⟩⟩
      rw [hexec, need_eq_self hpresent]

/-! ## Scenes (R136 to R139) -/

theorem Scene.isBuilding_iff (sc : Scene) : sc.isBuilding = true ↔ ∃ n held, sc = .building n held := by
  cases sc <;> simp [Scene.isBuilding]

theorem Scene.isBuilding_eq_false_iff (sc : Scene) : sc.isBuilding = false ↔ ∀ n held, sc ≠ .building n held := by
  cases sc <;> simp [Scene.isBuilding]

theorem readSceneNumber_eq {p : List Byte} {x : Fin 64} (h : u8 p 0 = x.val) : readSceneNumber p = some x := by
  rw [readSceneNumber, dif_pos (lt_of_eq_of_lt h x.isLt)]
  exact congrArg some (Fin.ext h)

theorem readSceneNumber_none {p : List Byte} (h : 63 < u8 p 0) : readSceneNumber p = none :=
  dif_neg (by omega)

/-- R136, R137: freeing a scene's entries and reserving `n`. -/
theorem poolFree_begin {scenes : Vector Scene 64} (x : Fin 64) (hpool : poolUsed scenes ≤ 2048) (n : Nat) :
    poolFree scenes + scenes[x].counted = 2048 - poolUsed (scenes.set x .empty)
      ∧ poolFree (scenes.set x (.building n [])) = 2048 - poolUsed (scenes.set x .empty) - n := by
  have hempty := poolUsed_set scenes x .empty
  have hbuilding := poolUsed_set scenes x (.building n [])
  rw [show Scene.empty.counted = 0 from rfl] at hempty
  rw [show (Scene.building n []).counted = n from rfl] at hbuilding
  simp only [poolFree, Config.poolSize]
  omega

/-- Settles O31. -/
theorem scenesBegunAndDeleted : Obligations.ScenesBegunAndDeleted := by
  refine ⟨fun s e rest h hx => ⟨fun hc hlen => ?_, fun hc hlen => ?_⟩, fun s e rest x h hx => ?_⟩
  · simp only [exec_beginScene h hc, needLength_pos hlen, readSceneNumber_none hx, ite_self, needFields_none]
  · simp only [exec_deleteScene h hc, needLength_pos hlen, readSceneNumber_none hx, needFields_none]
  · intro t p freed
    refine ⟨fun hc hlen hpool => ?_, fun hc hlen => ?_⟩
    · have hexec := exec_beginScene h hc
      simp only [needLength_pos (show e.payload.length = 3 from hlen), readSceneNumber_eq hx, beginCommand_lights] at hexec
      obtain ⟨hroom, hafter⟩ := poolFree_begin x hpool (u16 e.payload 1)
      refine ⟨fun (hbad : u16 e.payload 1 = 0 ∨ 512 < u16 e.payload 1) => ?_,
        fun (hpos : 1 ≤ u16 e.payload 1) hmax hbuilding => ?_, fun (hpos : 1 ≤ u16 e.payload 1) hmax hidle => ?_⟩
      · rw [hexec, if_neg (by omega), needFields_none]
      · rw [hexec, if_pos ⟨Nat.ne_of_gt hpos, hmax⟩, needFields_some,
          need_eq_refuse (by rw [(Scene.isBuilding_iff _).mpr hbuilding]; rfl)]
      · rw [hexec, if_pos ⟨Nat.ne_of_gt hpos, hmax⟩, needFields_some,
          need_eq_self (by rw [(Scene.isBuilding_eq_false_iff _).mpr hidle]; rfl)]
        simp only [need_ite, decide_eq_true_eq, hroom, beginScene, State.setScene_lights, beginCommand_lights, hafter]
        rfl
    · simp only [exec_deleteScene h hc, needLength_pos (show e.payload.length = 1 from hlen), readSceneNumber_eq hx,
        needFields_some]
      rfl

/-! ## SCENE_ENTRIES (R138) -/

section
variable {s : State} {e : Entry} {rest : List Entry} (h : Takes s e rest) (hc : e.code = 0x63)
  (hlen : e.payload.length = 2 + 10 * u8 e.payload 1)
include h hc hlen

theorem exec_sceneEntries_refused
    (hbad : 63 < u8 e.payload 0 ∨ u8 e.payload 1 = 0 ∨ 64 < u8 e.payload 1
      ∨ ∃ k < u8 e.payload 1, readSceneEntry (e.payload.drop (2 + 10 * k)) = none) :
    exec .sceneEntries s = .next (answer e (refuse .badArgument (beginCommand e rest s))) := by
  rw [exec_sceneEntries h hc]
  simp only
  rw [needCount_pos (by decide) hlen, need_ite]
  split
  · next hok =>
    obtain ⟨hpos, hmax⟩ := (countOk_iff _ _).mp hok
    obtain h0 | h1 | h64 | ⟨k, hk, hnone⟩ := hbad
    · rw [readSceneNumber_none h0, needFields_none]
    · exact absurd h1 (Nat.ne_of_gt hpos)
    · exact absurd h64 (Nat.not_lt.mpr hmax)
    · rw [needFields_match]
      split
      · rw [needFields_bad_record ⟨k, hk, by rw [List.drop_drop]; exact hnone⟩]
      · rfl
  · rfl

/-- R138: the fields in range, the tests of the scene follow. -/
theorem exec_sceneEntries_read {x : Fin 64} {entries : List SceneEntry} (hx : u8 e.payload 0 = x.val)
    (hpos : 1 ≤ u8 e.payload 1) (hmax : u8 e.payload 1 ≤ 64)
    (hread : readRecords readSceneEntry 10 (u8 e.payload 1) (e.payload.drop 2) = some entries) :
    exec .sceneEntries s = .next (answer e
      (need s.lights.scenes[x].isBuilding .notReady (beginCommand e rest s) <|
        need (entries.length ≤ s.lights.scenes[x].expected - s.lights.scenes[x].entries.length) .badArgument
            (beginCommand e rest s) <|
          need (!entriesRepeat s.lights.scenes[x].entries entries) .duplicate (beginCommand e rest s) <|
            appendEntries x entries (beginCommand e rest s))) := by
  rw [exec_sceneEntries h hc]
  simp only
  rw [needCount_pos (by decide) hlen, need_eq_self ((countOk_iff _ _).mpr ⟨hpos, hmax⟩), readSceneNumber_eq hx,
    needFields_some, hread, needFields_some]
  rfl

end

theorem entriesRepeat_eq_false_iff (held entries : List SceneEntry) :
    entriesRepeat held entries = false ↔ ((held ++ entries).map SceneEntry.fixture).Nodup := by
  simp only [entriesRepeat, Bool.not_eq_false', decide_eq_true_eq]

/-- R138: entries appended to a BUILDING scene that stays BUILDING. -/
theorem appendEntries_building {x : Fin 64} {entries held : List SceneEntry} {n : Nat} {t : State}
    (hx : t.lights.scenes[x] = .building n held) (hlen : held.length + entries.length ≠ n) :
    appendEntries x entries t =
      report (be2 (held.length + entries.length) ++ [1])
        { t with lights := { t.lights with scenes := t.lights.scenes.set x (.building n (held ++ entries)) } } := by
  have happend : t.lights.scenes[x].append entries = .building n (held ++ entries) := by
    rw [hx, Scene.append, if_neg (by rwa [List.length_append])]
  simp only [appendEntries, happend, Scene.entries, List.length_append]
  rfl

/-- R138: with the last expected entry the scene becomes READY. -/
theorem appendEntries_ready {x : Fin 64} {entries held : List SceneEntry} {n : Nat} {t : State}
    (hx : t.lights.scenes[x] = .building n held) (hlen : held.length + entries.length = n) :
    appendEntries x entries t =
      report (be2 n ++ [2]) (raise .sceneReady (t.setScene x (.ready (held ++ entries)))) := by
  have happend : t.lights.scenes[x].append entries = .ready (held ++ entries) := by
    rw [hx, Scene.append, if_pos (by rwa [List.length_append])]
  simp only [appendEntries, happend, Scene.entries, List.length_append, hlen]
  rfl

/-- Settles O32. -/
theorem sceneEntriesAppended : Obligations.SceneEntriesAppended := by
  refine ⟨fun s e rest h hc hlen hbad => exec_sceneEntries_refused h hc hlen hbad, ?_⟩
  intro s e rest x entries h hc hlen hx hpos hmax hread t
  have hexec := exec_sceneEntries_read h hc hlen hx hpos hmax hread
  refine ⟨fun hidle => ?_, fun n held hbuilding => ?_⟩
  · rw [hexec, need_eq_refuse ((Scene.isBuilding_eq_false_iff _).mpr hidle)]
  · have hbuild : s.lights.scenes[x].isBuilding = true := (Scene.isBuilding_iff _).mpr ⟨n, held, hbuilding⟩
    rw [need_eq_self hbuild, hbuilding] at hexec
    change exec .sceneEntries s = .next (answer e
      (need (entries.length ≤ n - held.length) .badArgument t <|
        need (!entriesRepeat held entries) .duplicate t <| appendEntries x entries t)) at hexec
    have happended (hroom : entries.length ≤ n - held.length)
        (hn : ((held ++ entries).map SceneEntry.fixture).Nodup) :
        exec .sceneEntries s = .next (answer e (appendEntries x entries t)) := by
      rw [hexec, need_eq_self (decide_eq_true hroom),
        need_eq_self (by rw [(entriesRepeat_eq_false_iff _ _).mpr hn]; rfl)]
    refine ⟨fun hmany => ?_, fun hroom hdup => ?_, fun hroom hn hnot => ?_, fun hroom hn hall => ?_⟩
    · rw [hexec, need_eq_refuse (decide_eq_false (Nat.not_le.mpr hmany))]
    · have hrep : entriesRepeat held entries = true := by
        rwa [← Bool.not_eq_false, entriesRepeat_eq_false_iff]
      rw [hexec, need_eq_self (decide_eq_true hroom), need_eq_refuse (by rw [hrep]; rfl)]
    · rw [happended hroom hn, appendEntries_building (t := t) hbuilding hnot]
      rfl
    · refine ⟨_, by rw [happended hroom hn, appendEntries_ready (t := t) hbuilding hall]; rfl, ?_, raise_has _ _, ?_, ?_,
        ?_⟩
      · rw [raise_lights]; rfl
      · rw [raise_follow]; rfl
      · rw [raise_looks]; rfl
      · rw [raise_cues]; rfl

end Sys2Proof.Machine
end

section
/-! Flags, counters, notices and faults (O33 to O35), the raising of events and tally edges (O47, O48). -/

namespace Sys2Proof.Machine

/-! ## CLEAR_EVENTS and READ_COUNTERS (R174, R179) -/

theorem readCounterSet_none {p : List Byte} (h : 2 < u8 p 0 ∨ (u8 p 0 = 2 ∧ 7 < u8 p 1)) : readCounterSet p = none := by
  unfold readCounterSet
  split
  · next h0 => omega
  · next h1 => omega
  · exact dif_neg (by omega)
  · rfl

theorem readCounterSet_chain {p : List Byte} {c : Fin 8} (h0 : u8 p 0 = 2) (h1 : u8 p 1 = c.val) :
    readCounterSet p = some (.chain c) := by
  simp only [readCounterSet, h0, h1, dif_pos c.isLt]

theorem readYesNo_ok {p : List Byte} {i : Nat} (h : u8 p i ≤ 1) : readYesNo p i = some (u8 p i == 1) := by
  rw [readYesNo_eq, if_pos h]

/-- R179: the CHAIN set of one chain cleared. -/
theorem clearSet_chain (s : State) (c : Fin 8) :
    clearSet s (.chain c) = { s with ports := (clearSet s (.chain c)).ports }
      ∧ ∀ d : Fin 8, (clearSet s (.chain c)).ports[d] = if d = c then s.ports[d].clearCounters else s.ports[d] := by
  refine ⟨rfl, fun d => ?_⟩
  simp only [clearSet, State.modifyPort_ports, Fin.getElem_fin, modifyAt_getElem, Fin.ext_iff]
  split
  · next hd => obtain rfl : d = c := Fin.ext hd; rfl
  · rfl

/-- Settles O33. -/
theorem flagsAndCountersRead : Obligations.FlagsAndCountersRead := by
  intro s e rest h hlen t p
  refine ⟨fun hc => ?_, fun hc hbad => ?_, fun hc (hclear : u8 e.payload 2 ≤ 1) => ?_⟩
  · have hmask : eventMask e.payload = BitVec.ofNat 24 (u8 p 0 * 65536 + u8 p 1 * 256 + u8 p 2) := by
      rw [eventMask, u16, Nat.add_assoc]
    have hdata : flagsData s.events =
        [BitVec.ofNat 8 (s.events.flags.toNat / 65536), BitVec.ofNat 8 (s.events.flags.toNat / 256),
          BitVec.ofNat 8 s.events.flags.toNat, s.events.groups.setWidth 8] := by
      simp [flagsData, be1, be2]
    simp only [exec_clearEvents h hc, needLength_pos hlen, beginCommand_events, hmask, hdata]
    rfl
  · have hexec := exec_readCounters h hc
    simp only [needLength_pos hlen] at hexec
    rw [hexec, needFields_match]
    split
    · next set hset =>
      have hyes : readYesNo e.payload 2 = none := by
        rw [readYesNo_eq, if_neg]
        intro hle
        obtain h0 | h1 | h2 := hbad
        · simp [readCounterSet_none (p := e.payload) (.inl h0)] at hset
        · simp [readCounterSet_none (p := e.payload) (.inr h1)] at hset
        · exact absurd hle (Nat.not_le.mpr h2)
      rw [hyes, needFields_none]
    · rfl
  · have hexec := exec_readCounters h hc
    simp only [needLength_pos hlen, readYesNo_ok hclear, needFields_some, beq_iff_eq] at hexec
    refine ⟨fun h0 => ?_, fun h1 => ?_, fun c h2 hchain => ?_⟩
    · rw [hexec, show readCounterSet e.payload = some .input by simp [readCounterSet, show u8 e.payload 0 = 0 from h0],
        needFields_some]
      rfl
    · rw [hexec, show readCounterSet e.payload = some .intake by simp [readCounterSet, show u8 e.payload 0 = 1 from h1],
        needFields_some]
      rfl
    · rw [readCounterSet_chain (p := e.payload) h2 hchain, needFields_some] at hexec
      obtain ⟨hframe, hports⟩ := clearSet_chain t c
      refine ⟨_, hexec, ?_, fun d hd => ?_, fun hno => ?_, fun hyes => ?_⟩
      · split
        · exact hframe
        · rfl
      · split
        · exact (hports d).trans (if_neg hd)
        · rfl
      · rw [if_neg (by rw [show u8 e.payload 2 = 0 from hno]; decide)]
        rfl
      · rw [if_pos hyes]
        exact (hports c).trans (if_pos rfl)

/-! ## SET_NOTICE (R175) -/

/-- The bits of a number given bit by bit. -/
theorem testBit_sum_bits {f : Nat → Nat} {n : Nat} (hf : ∀ i < n, f i ≤ 1) :
    ((List.range n).map fun i => f i * 2 ^ i).sum < 2 ^ n
      ∧ ∀ k < n, ((List.range n).map fun i => f i * 2 ^ i).sum.testBit k = (f k == 1) := by
  induction n with
  | zero => simp
  | succ n ih =>
    obtain ⟨hlt, hbits⟩ := ih fun i hi => hf i (by omega)
    have hn := hf n (by omega)
    have hsum : ((List.range (n + 1)).map fun i => f i * 2 ^ i).sum
        = 2 ^ n * f n + ((List.range n).map fun i => f i * 2 ^ i).sum := by
      rw [List.range_succ, List.map_append, List.sum_append, List.map_singleton, List.sum_singleton]
      ring
    rw [hsum]
    refine ⟨?_, fun k hk => ?_⟩
    · have : 2 ^ n * f n ≤ 2 ^ n := (Nat.mul_le_mul_left (2 ^ n) hn).trans_eq (Nat.mul_one _)
      rw [Nat.pow_succ]
      omega
    · rw [Nat.testBit_two_pow_mul_add _ hlt]
      split
      · next hkn => exact hbits k hkn
      · obtain rfl : k = n := by omega
        rw [Nat.sub_self]
        obtain h0 | h1 : f k = 0 ∨ f k = 1 := by omega
        · simp [h0]
        · simp [h1]

theorem readEnables_none {p : List Byte} (h : ¬ ∀ i < 7, u8 p i ≤ 1) : readEnables p = none :=
  if_neg (by simpa using h)

theorem readEnables_some {p : List Byte} (h : ∀ i < 7, u8 p i ≤ 1) :
    ∃ enables, readEnables p = some enables ∧ ∀ i : Fin 7, enables.getLsbD i.val = (u8 p i.val == 1) := by
  refine ⟨_, if_pos (by simpa using h), fun i => ?_⟩
  rw [BitVec.getLsbD_ofNat, (testBit_sum_bits h).2 i.val i.isLt]
  simp [i.isLt]

/-- R175: a due test that finds no threshold reached. -/
theorem dueTest_not_reached {s : State} (h : s.events.reached = false) (hd : s.events.due = false) : dueTest s = s := by
  have htest : s.events.testDue = s.events := by simp only [EventUnit.testDue, h, hd, Bool.or_self]; rw [← hd]
  rw [dueTest, htest, tryNotice, if_neg]
  · rfl
  · rw [show (s.setEvents s.events).events.due = false from hd, Bool.false_and]
    exact Bool.false_ne_true

theorem EventUnit.testDue_due {u : EventUnit} (h : u.reached = true ∨ u.due = true) : u.testDue = { u with due := true } := by
  rw [EventUnit.testDue, Bool.or_comm, Bool.or_eq_true .. |>.mpr h]

/-- R175: a notice that is due with no slot free stays due. -/
theorem dueTest_full {s : State} (h : s.events.reached = true ∨ s.events.due = true) (hf : s.ret.free = 0) :
    dueTest s = s.setEvents { s.events with due := true } := by
  rw [dueTest, EventUnit.testDue_due h, tryNotice, if_neg]
  rw [Bool.and_eq_true, bne_iff_ne]
  exact fun ⟨_, hfree⟩ => hfree hf

/-- R175, R176: a notice that is due with a slot free is queued at once. -/
theorem dueTest_queued {s : State} (h : s.events.reached = true ∨ s.events.due = true) (hf : s.ret.free ≠ 0) :
    dueTest s = queueNotice (s.setEvents { s.events with due := true }) := by
  rw [dueTest, EventUnit.testDue_due h, tryNotice, if_pos]
  rw [Bool.and_eq_true, bne_iff_ne]
  exact ⟨rfl, hf⟩

/-- R175: what a due test leaves of the settings and the flags. -/
theorem dueTest_settings (s : State) :
    (dueTest s).events.countThreshold = s.events.countThreshold
      ∧ (dueTest s).events.frameThreshold = s.events.frameThreshold
      ∧ (dueTest s).events.enables = s.events.enables ∧ (dueTest s).events.flags = s.events.flags := by
  obtain e | e := dueTest_events s <;> rw [e] <;> exact ⟨rfl, rfl, rfl, rfl⟩

/-- R175: the fields a SET_NOTICE writes, before its due test. -/
def State.setNotice (s : State) (enables : BitVec 7) (count frame : Nat) : State :=
  s.setEvents { s.events with enables := enables, countThreshold := count, frameThreshold := frame }

/-- Settles O34. -/
theorem noticeSettings : Obligations.NoticeSettings := by
  intro s e rest h hc hlen t p inRange
  have hexec := exec_setNotice h hc
  simp only [needLength_pos hlen, need_ite, Bool.and_eq_true, bne_iff_ne, decide_eq_true_eq] at hexec
  refine ⟨fun hbad => ?_, fun ⟨h7, h16, h8, hcodes⟩ => ?_⟩
  · rw [hexec]
    split
    · next hok =>
      obtain ⟨⟨h7, h16⟩, h8⟩ := hok
      have hcodes : ¬ ∀ i < 7, u8 e.payload i ≤ 1 := fun hcodes =>
        hbad ⟨Nat.one_le_iff_ne_zero.mpr h7, h16, Nat.one_le_iff_ne_zero.mpr h8, hcodes⟩
      rw [readEnables_none hcodes, needFields_none]
    · rfl
  · obtain ⟨enables, hread, hbits⟩ := readEnables_some (p := e.payload) hcodes
    rw [if_pos ⟨⟨Nat.one_le_iff_ne_zero.mp h7, h16⟩, Nat.one_le_iff_ne_zero.mp h8⟩, hread, needFields_some] at hexec
    let v := t.setNotice enables (u8 p 7) (u8 p 8)
    obtain ⟨hcount, hframe, henables, hflags⟩ := dueTest_settings v
    refine ⟨dueTest v, hexec, hcount, hframe, fun i => by rw [henables]; exact hbits i, hflags, ?_, ?_, ?_,
      fun hpending hframes hdue => ?_, fun hreached hfree => ?_, fun hreached hfree => ?_⟩
    · rw [dueTest_looks]; rfl
    · rw [dueTest_cues]; rfl
    · rw [dueTest_store]; rfl
    · rw [dueTest_not_reached (s := v) _ hdue]
      · exact ⟨hdue, rfl, rfl, rfl⟩
      · rw [← Bool.not_eq_true, EventUnit.reached_iff]
        exact fun hr => hr.elim (fun h => absurd hpending (Nat.not_lt.mpr h)) fun h => absurd hframes (Nat.not_lt.mpr h)
    · rw [dueTest_full (s := v) (.inl ((EventUnit.reached_iff _).mpr hreached)) hfree]
      exact ⟨rfl, rfl, rfl⟩
    · rw [dueTest_queued (s := v) (.inl ((EventUnit.reached_iff _).mpr hreached)) hfree, queueNotice_events]
      exact ⟨rfl, rfl, rfl, rfl⟩

/-! ## CLEAR_FAULTS (R59, R107, R178) -/

theorem mem_placesWhere {α : Type} {n : Nat} (p : α → Bool) (v : Vector α n) (i : Fin n) :
    i ∈ placesWhere p v ↔ p v[i] = true := by
  simp [placesWhere]

/-- The places of a list of entries, as numbers, are in rising order and are those of the entries. -/
theorem placesWhere_val {α : Type} {n : Nat} (p : α → Bool) (v : Vector α n) :
    ((placesWhere p v).map Fin.val).Pairwise (· < ·)
      ∧ ∀ k, k ∈ (placesWhere p v).map Fin.val ↔ ∃ i : Fin n, i.val = k ∧ p v[i] = true := by
  constructor
  · rw [List.pairwise_map]
    exact (List.pairwise_lt_finRange n).filter _
  · intro k
    simp only [List.mem_map, mem_placesWhere]
    exact ⟨fun ⟨i, hi, hk⟩ => ⟨i, hk, hi⟩, fun ⟨i, hk, hi⟩ => ⟨i, hi, hk⟩⟩

theorem isCool_eq (temp : Option Int) (t : Int) (hysteresis : Nat) :
    isCool temp t hysteresis = temp.all fun x => decide (x < t - hysteresis) := by
  cases temp <;> rfl

theorem listBytes_eq (xs : List Nat) :
    listBytes xs = Config.listBefore xs.length ++ xs.map (BitVec.ofNat 8) ++ Config.listAfter xs.length := by
  rw [listBytes, show xs.flatMap be1 = xs.map (BitVec.ofNat 8) from (List.map_eq_flatMap ..).symm]

theorem yesNo_eq (b : Bool) : yesNo b = [if b then 1 else 0] := by
  cases b <;> rfl

/-- Settles O35. -/
theorem faultsCleared : Obligations.FaultsCleared := by
  intro s e rest h hc hp t
  have hlen : e.payload.length = 0 := by rw [hp]; rfl
  have hexec := exec_clearFaults h hc
  simp only [needLength_pos hlen] at hexec
  obtain ⟨hchains, hchain⟩ := placesWhere_val (fun p : ChainPort => p.state == .failed) (clearFaults t).ports
  obtain ⟨hzones, hzone⟩ := placesWhere_val (fun z : Zone => z.state == .shutdown) (clearFaults t).thermal.zones
  refine ⟨clearFaults t, _, hexec, rfl, fun c => mapAll_getElem .., fun z => (mapAll_getElem ..).trans ?_,
    failedChains (clearFaults t), shutdownZones (clearFaults t), ?_, hchains, hzones,
    fun n => by rw [failedChains, hchain]; simp, fun n => by rw [shutdownZones, hzone]; simp⟩
  · rw [Zone.clearFault, isCool_eq]
    rfl
  · simp only [faultData, listBytes_eq, yesNo_eq, List.append_assoc]
    rfl

/-! ## Raising an event, the due test and the notice (R173, R175, R176) -/

/-- R169: a packet placed while a send is under way waits. -/
theorem placeOwn_own_of_sending (p : ReturnPacket) {s : State} (h : s.ret.sending.isSome = true) :
    (placeOwn p s).ret.own = s.ret.own ++ [p] := by
  rw [placeOwn, lookIntake_ret, startSend_of_sending (s := { s with ret := { s.ret with own := s.ret.own ++ [p] } }) h]

/-- R169: a packet placed on an idle lane is sent at once. -/
theorem placeOwn_sending_of_idle (p : ReturnPacket) {s : State} (h : s.ret.sending = none) (ho : s.ret.own = [])
    (hp : s.ret.pass = []) : (placeOwn p s).ret.sending = some p.bytes := by
  rw [placeOwn, lookIntake_ret,
    startSend_single (s := { s with ret := { s.ret with own := s.ret.own ++ [p] } }) (p := p) h (by simp [ho]) hp]
  rfl

/-- R176: what queuing a notice makes of the event unit and the return lane. -/
theorem queueNotice_spec (s : State) :
    let notice := ReturnPacket.notice s.intake.slot0 (statusByte s) (s.events.groups.setWidth 8)
    (queueNotice s).events = { s.events with groups := 0, pending := 0, frames := 0, due := false }
      ∧ (queueNotice s).looks = s.looks ∧ (queueNotice s).store = s.store
      ∧ (s.ret.sending.isSome = true → (queueNotice s).ret.own = s.ret.own ++ [notice])
      ∧ (s.ret.sending = none → s.ret.own = [] → s.ret.pass = [] →
          (queueNotice s).ret.sending = some notice.bytes) :=
  ⟨queueNotice_events s, queueNotice_looks s, queueNotice_store s,
    fun h => placeOwn_own_of_sending (s := s.setEvents s.events.noticeSent) _ h,
    fun h ho hp => placeOwn_sending_of_idle (s := s.setEvents s.events.noticeSent) _ h ho hp⟩

/-- Settles O47. -/
theorem noticeEvents : Obligations.NoticeEvents := by
  refine ⟨fun x s => ⟨fun h => if_pos h, fun h hen => ?_, fun h hen => ?_⟩, fun s => ?_⟩
  · rw [raise, if_neg (by simp [h]), if_neg (by simp [hen])]
    rfl
  · rw [raise, if_neg (by simp [h]), if_pos hen]
    rfl
  · intro reached cleared notice
    have hreached : reached ↔ s.events.reached = true := (EventUnit.reached_iff s.events).symm
    refine ⟨fun hno hd => ?_, fun hyes hfull => ?_, fun hyes hfree => ?_, fun hno => ?_, fun hd hfree => ?_⟩
    · rw [hreached, Bool.not_eq_true] at hno
      exact congrArg Host.Outcome.next (dueTest_not_reached hno hd)
    · rw [hreached] at hyes
      exact congrArg Host.Outcome.next (dueTest_full hyes hfull)
    · rw [hreached] at hyes
      exact ⟨_, congrArg Host.Outcome.next (dueTest_queued hyes hfree),
        queueNotice_spec (s.setEvents { s.events with due := true })⟩
    · refine congrArg Host.Outcome.next (if_neg ?_)
      rw [Bool.and_eq_true, bne_iff_ne]
      rintro ⟨hd, hfree⟩
      exact hno.elim (fun h => by simp [hd] at h) hfree
    · exact ⟨_, congrArg Host.Outcome.next (if_pos (by rw [Bool.and_eq_true, bne_iff_ne]; exact ⟨hd, hfree⟩)),
        queueNotice_spec s⟩

/-! ## TALLY (R127) -/

theorem Cue.markEdge_of_onTally {c : Cue} {edge : Bool} (h : c.trigger = .onTally edge) :
    c.markEdge = { c with trigger := .onTally true } := by
  simp only [Cue.markEdge, h]

theorem Cue.markEdge_of_other {c : Cue} (h : ∀ edge, c.trigger ≠ .onTally edge) : c.markEdge = c := by
  unfold Cue.markEdge
  split
  · next edge htrigger => exact absurd htrigger (h edge)
  · rfl
  · rfl

/-- Settles O48. -/
theorem tallyEdges : Obligations.TallyEdges := fun s =>
  ⟨rfl, _, rfl, rfl, rfl, List.length_map .., fun k c hk =>
    ⟨fun edge h => by simp [hk, Cue.markEdge_of_onTally h], fun h => by simp [hk, Cue.markEdge_of_other h]⟩⟩

end Sys2Proof.Machine
end

section
/-! SET_CHAIN and RESTART_CHAIN (O25). -/

namespace Sys2Proof.Machine

/-! ## The fields (R48, R58) -/

theorem readChainConfig_bad_chain {p : List Byte} (h : 7 < u8 p 0) : readChainConfig p = none := by
  unfold readChainConfig
  split
  · exact dif_neg (by omega)
  · rfl

theorem readChainConfig_none {p : List Byte}
    (h : 1 < u8 p 1 ∨ 1 < u8 p 2 ∨ u8 p 3 = 0 ∨ u8 p 4 = 0 ∨ u16 p 7 = 0 ∨ 4096 < u16 p 7) : readChainConfig p = none := by
  unfold readChainConfig
  rw [readYesNo_eq, recoveryOf_eq]
  by_cases h1 : u8 p 1 ≤ 1
  · by_cases h2 : u8 p 2 ≤ 1
    · simp only [if_pos h1, if_pos h2]
      split
      · exact if_neg (by omega)
      · rfl
    · simp [h2]
  · simp [h1]

theorem readChainConfig_some {p : List Byte} {c : Fin 8} (h0 : u8 p 0 = c.val) (h1 : u8 p 1 ≤ 1) (h2 : u8 p 2 ≤ 1)
    (h3 : 1 ≤ u8 p 3) (h4 : 1 ≤ u8 p 4) (hlow : 1 ≤ u16 p 7) (hhigh : u16 p 7 ≤ 4096) :
    readChainConfig p =
      some (c,
        { enable := u8 p 1 == 1, recovery := if u8 p 2 = 0 then .auto else .latched, holdoff := u8 p 3
          silentLimit := u8 p 4, budget := u16 p 5, releaseStep := u16 p 7 }) := by
  have hchain : u8 p 0 < 8 := lt_of_eq_of_lt h0 c.isLt
  have hfin : (⟨u8 p 0, hchain⟩ : Fin 8) = c := Fin.ext h0
  unfold readChainConfig
  rw [readYesNo_eq, recoveryOf_eq, if_pos h1, if_pos h2]
  simp only [dif_pos hchain, hfin]
  exact if_pos ⟨by omega, by omega, by omega, hhigh⟩

theorem readChain_some {p : List Byte} {c : Fin 8} (h : u8 p 0 = c.val) : readChain p = some c := by
  rw [readChain, dif_pos (lt_of_eq_of_lt h c.isLt)]
  exact congrArg some (Fin.ext h)

/-! ## A chain that leaves RUN (R76, R82, R93) -/

/-- R82: the lines that are whole within `n` pixels, and no more. -/
theorem linesWithin_spec {α : Type} (n : Nat) (lines : List (List α)) :
    (lines.take (linesWithin n lines)).flatten.length ≤ n
      ∧ ∀ j ≤ lines.length, (lines.take j).flatten.length ≤ n → j ≤ linesWithin n lines := by
  induction lines generalizing n with
  | nil => simp [linesWithin]
  | cons x xs ih =>
    simp only [linesWithin]
    split
    · next hx =>
      obtain ⟨hin, hmost⟩ := ih (n - x.length)
      refine ⟨?_, fun j hj hlen => ?_⟩
      · simp only [List.take_succ_cons, List.flatten_cons, List.length_append]
        omega
      · cases j with
        | zero => omega
        | succ j =>
          simp only [List.take_succ_cons, List.flatten_cons, List.length_append, List.length_cons] at hlen hj
          have := hmost j (by omega) (by omega)
          omega
    · next hx =>
      refine ⟨by simp, fun j _ hlen => ?_⟩
      cases j with
      | zero => omega
      | succ j =>
        simp only [List.take_succ_cons, List.flatten_cons, List.length_append] at hlen
        omega

section
variable {s : State} {c : Fin 8}

theorem leaveRun_blocks :
    (leaveRun c s).power = { s.power with limiters := (leaveRun c s).power.limiters }
      ∧ (leaveRun c s).out = { s.out with chains := (leaveRun c s).out.chains }
      ∧ ∀ d : Fin 8, d ≠ c → (leaveRun c s).out.chains[d] = s.out.chains[d] := by
  unfold leaveRun
  split
  · split
    · refine ⟨rfl, rfl, fun d hd => ?_⟩
      have hne : d.val ≠ c.val := fun h => hd (Fin.ext h)
      simp [dropLimiter, abandonLines, keepSent, hne]
    · exact ⟨rfl, rfl, fun _ _ => rfl⟩
  · exact ⟨rfl, rfl, fun _ _ => rfl⟩

theorem leaveRun_idle_sent (h : s.timing.phase ≠ .active) :
    (leaveRun c s).out.chains[c] = s.out.chains[c]
      ∧ (leaveRun c s).power.limiters[c].acc = s.power.limiters[c].acc := by
  unfold leaveRun
  rw [if_neg h]
  split
  · exact ⟨rfl, by simp [dropLimiter]⟩
  · exact ⟨rfl, rfl⟩

/-- R76, R82: within a frame the lines that were sent whole stay, and the accumulator holds the demand of the pixels
sent. -/
theorem leaveRun_cutShort (hr : s.ports[c].state = .run) (ha : s.timing.phase = .active) :
    let demands := lineDemands s.comp s.store.pages c s.ports[c].roster
    ∃ n k : Nat, (leaveRun c s).out.chains[c] = s.out.chains[c].take k
      ∧ (leaveRun c s).power.limiters[c].acc = (demands.flatten.take n).sum
      ∧ k ≤ demands.length ∧ (demands.take k).flatten.length ≤ n
      ∧ ∀ j, j ≤ demands.length → (demands.take j).flatten.length ≤ n → j ≤ k := by
  obtain ⟨n, hsent, hacc⟩ := leaveRun_sent c s hr ha
  obtain ⟨hwithin, hmost⟩ := linesWithin_spec n (lineDemands s.comp s.store.pages c s.ports[c].roster)
  exact ⟨n, _, hsent, hacc, linesWithin_le _ _, hwithin, hmost⟩

end

/-! ## The two commands (R48, R49, R58) -/

theorem modifyPort_self (s : State) (c : Fin 8) (f : ChainPort → ChainPort) :
    (s.modifyPort c f).ports[c] = f s.ports[c] := by
  simp

theorem modifyPort_other (s : State) {c d : Fin 8} (h : d ≠ c) (f : ChainPort → ChainPort) :
    (s.modifyPort c f).ports[d] = s.ports[d] := by
  simp [show d.val ≠ c.val from fun he => h (Fin.ext he)]

/-- R93: a command that takes a port out of RUN touches that port, its limiter and what was sent, and nothing else. -/
theorem leaveRun_modifyPort_framed (s : State) (c : Fin 8) (f : ChainPort → ChainPort) :
    let u := (leaveRun c s).modifyPort c f
    u = { s with ports := u.ports, power := u.power, out := u.out, freeIndex := u.freeIndex }
      ∧ (∀ d : Fin 8, d ≠ c → u.ports[d] = s.ports[d] ∧ u.power.limiters[d] = s.power.limiters[d])
      ∧ u.ports[c] = f s.ports[c] := by
  obtain ⟨-, -, hother, -, -⟩ := leaveRun_power c s
  refine ⟨?_, fun d hd => ⟨?_, hother d hd⟩, ?_⟩
  · exact congrArg (fun r : State => { r with ports := ((leaveRun c s).modifyPort c f).ports }) (leaveRun_frame c s)
  · rw [modifyPort_other _ hd, leaveRun_ports]
  · rw [modifyPort_self, leaveRun_ports]

theorem ChainPort.configure_enable_off {p : ChainPort} {cfg : ChainConfig} (he : cfg.enable = true)
    (hs : p.state = .off) :
    p.configure cfg = { p with config := cfg, state := .probe, newlyEnabled := true, windowOpen := false } := by
  simp only [ChainPort.configure, he, hs]

theorem ChainPort.configure_enable_on {p : ChainPort} {cfg : ChainConfig} (he : cfg.enable = true)
    (hs : p.state ≠ .off) : p.configure cfg = { p with config := cfg } := by
  unfold ChainPort.configure
  split
  · next hoff => exact absurd hoff hs
  · rfl
  · rfl
  · next hno _ => simp [he] at hno

theorem ChainPort.configure_disable_off {p : ChainPort} {cfg : ChainConfig} (he : cfg.enable = false)
    (hs : p.state = .off) : p.configure cfg = { p with config := cfg } := by
  simp only [ChainPort.configure, he, hs]

theorem ChainPort.configure_disable_on {p : ChainPort} {cfg : ChainConfig} (he : cfg.enable = false)
    (hs : p.state ≠ .off) : p.configure cfg = { p.disable with config := cfg } := by
  unfold ChainPort.configure
  split
  · next hyes _ => simp [he] at hyes
  · next hyes _ => simp [he] at hyes
  · next hoff => exact absurd hoff hs
  · rfl

theorem ChainPort.disable_reports (p : ChainPort) (i : Fin 16) :
    p.disable.reports[i] = { last := none, since := p.reports[i].since, silent := false, fresh := false } := by
  simp [ChainPort.disable]

theorem ChainPort.restart_reports (p : ChainPort) (i : Fin 16) :
    p.restart.reports[i] = { p.reports[i] with silent := false, fresh := false } := by
  simp [ChainPort.restart]

/-- Settles O25. -/
theorem chainCommands : Obligations.ChainCommands := by
  refine ⟨fun s e rest h hg hchain => ⟨fun hc hlen => ?_, fun hc hlen => ?_⟩, fun s e rest c h hg hchain => ?_⟩
  · have hguard : (beginCommand e rest s).onAirGuard = false := by rw [beginCommand_onAirGuard, hg]
    simp only [exec_setChain h hc, needLength_pos hlen, needUnguarded_pos hguard, readChainConfig_bad_chain hchain,
      needFields_none]
  · have hguard : (beginCommand e rest s).onAirGuard = false := by rw [beginCommand_onAirGuard, hg]
    have hnone : readChain e.payload = none := dif_neg (Nat.not_lt.mpr hchain)
    simp only [exec_restartChain h hc, needLength_pos hlen, needUnguarded_pos hguard, hnone, needFields_none]
  · intro t p old demands cutShort leftRun framed
    have hguard : (beginCommand e rest s).onAirGuard = false := by rw [beginCommand_onAirGuard, hg]
    have hleft (f : ChainPort → ChainPort) (hrun : old.state = .run) : leftRun ((leaveRun c t).modifyPort c f) := by
      obtain ⟨-, -, -, hdrop, -⟩ := leaveRun_power c t
      obtain ⟨hpower, hout, hothers⟩ := leaveRun_blocks (s := t) (c := c)
      obtain ⟨hscale, hmeasured⟩ := hdrop hrun
      exact ⟨hscale, hmeasured,
        ⟨fun ha => leaveRun_cutShort (s := t) hrun ha, fun ha => leaveRun_idle_sent (s := t) ha⟩, hpower, hout, hothers⟩
    have hkept (f : ChainPort → ChainPort) (hrun : old.state ≠ .run) :
        ((leaveRun c t).modifyPort c f).power = s.power ∧ ((leaveRun c t).modifyPort c f).out = s.out := by
      obtain ⟨-, -, -, -, hsame⟩ := leaveRun_power c t
      rw [hsame hrun]
      exact ⟨rfl, rfl⟩
    refine ⟨fun hc (hlen : e.payload.length = 9) => ?_, fun hc (hlen : e.payload.length = 1) => ?_⟩
    · intro cfg
      have hexec := exec_setChain h hc
      simp only [needLength_pos hlen, needUnguarded_pos hguard] at hexec
      refine ⟨fun hbad => by rw [hexec, readChainConfig_none (p := e.payload) hbad, needFields_none],
        fun h1 h2 h3 h4 hlow hhigh => ?_⟩
      rw [readChainConfig_some (p := e.payload) hchain h1 h2 h3 h4 hlow hhigh, needFields_some] at hexec
      refine ⟨_, hexec, ?_⟩
      obtain hno | hyes : u8 e.payload 1 = 0 ∨ u8 e.payload 1 = 1 := Nat.le_one_iff_eq_zero_or_eq_one.mp h1
      · have hdisable : cfg.enable = false := by simp [cfg, p, hno]
        have hu : configureChain c cfg t = (leaveRun c t).modifyPort c fun q => q.configure cfg := by
          rw [configureChain, hdisable]; rfl
        obtain ⟨hframe, hothers, hport⟩ := leaveRun_modifyPort_framed t c fun q => q.configure cfg
        rw [show configureChain _ _ _ = _ from hu]
        refine ⟨⟨hframe, hothers⟩, fun hone => ?_, fun hone => ?_, fun _ hoff => ?_, fun _ hon => ?_,
          fun _ hrun => hleft _ hrun, fun hkeep => hkept _ (hkeep.resolve_left fun hone => ?_)⟩
        · exact absurd (hone.symm.trans hno) (by decide)
        · exact absurd (hone.symm.trans hno) (by decide)
        · exact hport.trans (ChainPort.configure_disable_off hdisable hoff)
        · have hp := hport.trans (ChainPort.configure_disable_on hdisable hon)
          refine ⟨by rw [hp]; rfl, fun i => by rw [hp]; exact ChainPort.disable_reports _ i⟩
        · exact absurd (hone.symm.trans hno) (by decide)
      · have henable : cfg.enable = true := by simp [cfg, p, hyes]
        have hu : configureChain c cfg t = t.modifyPort c fun q => q.configure cfg := by
          rw [configureChain, henable]; rfl
        rw [show configureChain _ _ _ = _ from hu]
        refine ⟨⟨rfl, fun d hd => ⟨modifyPort_other t hd _, rfl⟩⟩, fun _ hoff => ?_, fun _ hon => ?_, fun hzero => ?_,
          fun hzero => ?_, fun hzero => ?_, fun _ => ⟨rfl, rfl⟩⟩
        · exact (modifyPort_self t c _).trans (ChainPort.configure_enable_off henable hoff)
        · exact (modifyPort_self t c _).trans (ChainPort.configure_enable_on henable hon)
        · exact absurd (hzero.symm.trans hyes) (by decide)
        · exact absurd (hzero.symm.trans hyes) (by decide)
        · exact absurd (hzero.symm.trans hyes) (by decide)
    · have hexec := exec_restartChain h hc
      simp only [needLength_pos hlen, needUnguarded_pos hguard, readChain_some hchain, needFields_some,
        beginCommand_ports] at hexec
      refine ⟨fun hoff => ?_, fun hon => ⟨(leaveRun c t).modifyPort c ChainPort.restart, ?_, ?_⟩⟩
      · rw [hexec, need_eq_refuse (by rw [show s.ports[c].state = .off from hoff]; rfl)]
      · rw [hexec, need_eq_self (bne_iff_ne.mpr hon)]
      · obtain ⟨hframe, hothers, hport⟩ := leaveRun_modifyPort_framed t c ChainPort.restart
        exact ⟨⟨hframe, hothers⟩, by rw [hport]; rfl, fun i => by rw [hport]; exact ChainPort.restart_reports _ i,
          hleft _, hkept _⟩

end Sys2Proof.Machine
end

section
/-! The picture content of the forward lane (O36, O37). -/

namespace Sys2Proof.Machine

/-! ## What raising leaves of the record of the links -/

/-- What was passed on and what went to the chains and the light lines is as it was. -/
def SameLinks (s t : State) : Prop :=
  t.out.through = s.out.through ∧ t.out.chains = s.out.chains ∧ t.out.lights = s.out.lights

theorem placeOwn_links (p : ReturnPacket) (s : State) : SameLinks s (placeOwn p s) := by
  rw [SameLinks, placeOwn, lookIntake_out]
  exact startSend_links _

theorem tryNotice_links (s : State) : SameLinks s (tryNotice s) := by
  unfold tryNotice
  split
  · exact placeOwn_links _ _
  · exact ⟨rfl, rfl, rfl⟩

theorem dueTest_links (s : State) : SameLinks s (dueTest s) := tryNotice_links (s.setEvents s.events.testDue)

theorem raise_links (e : Source) (s : State) : SameLinks s (raise e s) := by
  unfold raise
  split
  · exact ⟨rfl, rfl, rfl⟩
  · split
    · exact dueTest_links _
    · exact ⟨rfl, rfl, rfl⟩

/-! ## Pages (R3, R6) -/

theorem pageIn_of_lowest {role : PageRole} {pages : Vector Page 3} {i : Fin 3} (h : pages[i].role = role)
    (hlow : ∀ j < i, pages[j].role ≠ role) : pageIn role pages = some i := by
  cases hp : pageIn role pages with
  | none => exact absurd h (pageIn_eq_none.mp hp i)
  | some k =>
    obtain ⟨hk, hklow⟩ := pageIn_eq_some hp
    obtain hlt | rfl | hgt := lt_trichotomy i k
    · exact absurd h (hklow i hlt)
    · rfl
    · exact absurd hk (hlow k hgt)

theorem pageIn_isSome_iff {role : PageRole} {pages : Vector Page 3} :
    (pageIn role pages).isSome = true ↔ ∃ j : Fin 3, pages[j].role = role := by
  rw [Option.isSome_iff_ne_none, ne_eq, pageIn_eq_none]
  push Not
  rfl

theorem Page.take_seq (p : Page) (seq : BitVec 16) (width height : Nat) (fill : Rgb) :
    (p.take seq width height fill).seq = some seq := by
  unfold Page.take; split <;> rfl

theorem Page.take_size (p : Page) (seq : BitVec 16) (width height : Nat) (fill : Rgb) :
    (p.take seq width height fill).size = some (width, height) := by
  unfold Page.take
  split
  · next h => exact h
  · rfl

/-- R3: content recorded at the same size is kept, and other content is filled. -/
theorem Page.take_line (p : Page) (seq : BitVec 16) (width height : Nat) (fill : Rgb) (y : Nat) :
    (p.take seq width height fill).line y =
      if p.size = some (width, height) then p.line y else List.replicate width fill := by
  unfold Page.take
  split <;> rfl

theorem Page.role_ite (p : Page) (moves : Prop) [Decidable moves] (r : PageRole) :
    { p with role := if moves then r else p.role } = if moves then { p with role := r } else p := by
  split <;> rfl

/-! ## Opening and closing an input frame (R2 to R6) -/

theorem missingLines_eq (good : List Nat) (height : Nat) :
    missingLines good height = ((List.range height).filter fun y => !good.contains y).length := by
  rw [missingLines, List.countP_eq_length_filter]

/-- R6: the role of each page after the input frame in page `p` has closed, with enough lines or not. -/
def closedRole (enough : Prop) [Decidable enough] (p : Fin 3) (pages : Vector Page 3) (j : Fin 3) : PageRole :=
  if j = p then (if enough then .latest else .free)
  else if enough ∧ pages[j].role = .latest then .free else pages[j].role

/-- R5, R6: an input frame that closes. -/
theorem closeInput_spec {s : State} {p : Fin 3} (hp : pageIn .write s.store.pages = some p) :
    let enough := ((List.range s.store.pages[p].height).filter fun y => !s.link.good.contains y).length
      ≤ s.store.missingLimit
    closeInput s = { s with link := { s.link with assembly := .idle, good := [] }, store := (closeInput s).store }
      ∧ (closeInput s).store =
        { s.store with
          pages := (closeInput s).store.pages, bad := (closeInput s).store.bad, dropped := (closeInput s).store.dropped }
      ∧ (closeInput s).store.bad = (if enough then s.store.bad else s.store.bad.inc)
      ∧ (closeInput s).store.dropped =
          (if enough ∧ ∃ j : Fin 3, s.store.pages[j].role = .latest then s.store.dropped.inc else s.store.dropped)
      ∧ ∀ j : Fin 3, (closeInput s).store.pages[j] =
          { s.store.pages[j] with role := closedRole enough p s.store.pages j } := by
  intro enough
  refine ⟨rfl, ?_⟩
  rw [closeInput_store hp, missingLines_eq]
  by_cases he : enough
  · rw [if_pos he, if_pos he]
    refine ⟨rfl, rfl, ?_, fun j => ?_⟩
    · simp only [acceptPage, pageIn_isSome_iff, he, true_and]
    · simp only [acceptPage, closedRole, he, true_and]
      by_cases hj : j = p
      · subst hj
        simp only [Fin.getElem_fin, setRole_getElem, moveRole_getElem, if_true]
        split <;> rfl
      · have hne : ¬ j.val = p.val := fun h => hj (Fin.ext h)
        simp only [Fin.getElem_fin, setRole_getElem, moveRole_getElem, if_neg hne, if_neg hj]
        split <;> rfl
  · rw [if_neg he, if_neg he]
    refine ⟨rfl, rfl, (if_neg fun h => he h.1).symm, fun j => ?_⟩
    simp only [rejectPage, closedRole, he, false_and, if_false]
    by_cases hj : j = p
    · subst hj
      simp
    · have hne : ¬ j.val = p.val := fun h => hj (Fin.ext h)
      simp only [Fin.getElem_fin, setRole_getElem, if_neg hne, if_neg hj]

/-- R2, R3: an input frame that opens on the lowest FREE page. -/
theorem openInput_spec {s : State} {q : Fin 3} (hq : pageIn .free s.store.pages = some q) (seq : BitVec 16)
    (width height : Nat) :
    let t := openInput seq width height s
    t = { s with link := { s.link with assembly := .open, good := [] }, store := t.store }
      ∧ t.store = { s.store with pages := t.store.pages }
      ∧ (∀ j : Fin 3, j ≠ q → t.store.pages[j] = s.store.pages[j])
      ∧ t.store.pages[q].role = .write ∧ t.store.pages[q].seq = some seq
      ∧ t.store.pages[q].size = some (width, height)
      ∧ ∀ y, t.store.pages[q].line y =
          if s.store.pages[q].size = some (width, height) then s.store.pages[q].line y
          else List.replicate width s.store.fill := by
  intro t
  have hstore : t.store = { s.store with pages := modifyAt s.store.pages q fun p => p.take seq width height s.store.fill } :=
    openInput_store hq seq width height
  have hself : t.store.pages[q] = s.store.pages[q].take seq width height s.store.fill := by rw [hstore]; simp
  refine ⟨rfl, by rw [hstore], fun j hj => ?_, ?_, ?_, ?_, fun y => ?_⟩
  · rw [hstore]
    simp [show ¬ j.val = q.val from fun h => hj (Fin.ext h)]
  · rw [hself, Page.take_role]
  · rw [hself, Page.take_seq]
  · rw [hself, Page.take_size]
  · rw [hself, Page.take_line]

theorem rasterOk_iff (width height : Nat) :
    rasterOk width height = true ↔ 64 ≤ width ∧ width ≤ 4096 ∧ 64 ≤ height ∧ height ≤ 2160 := by
  simp [rasterOk, and_assoc]

/-- R2: a marker in range opens an input frame on the state that the closing of the one before leaves; another is
rejected there. -/
theorem takeMarker_ok {width height : Nat} (h : rasterOk width height = true) (seq : BitVec 16) (s : State) :
    takeMarker seq width height s =
      openInput seq width height (if s.link.assembly = .open then closeInput s else s) := if_pos h

theorem takeMarker_bad {width height : Nat} (h : ¬ rasterOk width height = true) (seq : BitVec 16) (s : State) :
    takeMarker seq width height s = rejectMarker (if s.link.assembly = .open then closeInput s else s) := if_neg h

theorem rejectMarker_spec (s : State) :
    (rejectMarker s).link = { s.link with assembly := .rejected, good := [] } ∧ (rejectMarker s).store = s.store
      ∧ (rejectMarker s).events.has .formatRejected = true ∧ (rejectMarker s).out.through = s.out.through := by
  refine ⟨raise_link .., raise_store .., raise_has .., ?_⟩
  obtain ⟨hthrough, -⟩ := raise_links .formatRejected { s with link := { s.link with assembly := .rejected, good := [] } }
  exact hthrough

theorem FrameStore.pages_of_pages_and_counters {a b c : FrameStore} (hab : a = { b with pages := a.pages })
    (hbc : b = { c with pages := b.pages, bad := b.bad, dropped := b.dropped }) :
    a = { c with pages := a.pages, bad := a.bad, dropped := a.dropped } := by
  cases a; cases b; cases c
  simp_all

/-- Settles O36. -/
theorem markerOpensOrRejects : Obligations.MarkerOpensOrRejects := by
  intro s seq w h ok
  have hok : ok ↔ rasterOk w.toNat h.toNat = true := (rasterOk_iff _ _).symm
  let on := s.passOn (markerBytes seq w h)
  have hexec : exec (.frameStartMarker seq w h) s = .next (takeMarker seq w.toNat h.toNat on) := rfl
  refine ⟨fun hclosed hin p hp => ?_, fun hclosed hout => ?_, fun p hopen hp => ?_⟩
  · obtain ⟨-, hstore, hothers, hpage⟩ := openInput_spec (s := on) hp seq w.toNat h.toNat
    rw [hexec, takeMarker_ok (hok.mp hin), if_neg (show ¬ on.link.assembly = .open from hclosed)]
    exact ⟨_, rfl, rfl, rfl, rfl, rfl, hstore, hothers, hpage⟩
  · obtain ⟨hlink, hstore, hevent, hthrough⟩ := rejectMarker_spec on
    rw [hexec, takeMarker_bad (mt hok.mpr hout), if_neg (show ¬ on.link.assembly = .open from hclosed)]
    exact ⟨_, rfl, hlink, hstore, hevent, hthrough⟩
  · intro enough closed counted
    obtain ⟨-, hcstore, hcbad, hcdropped, hcpages⟩ := closeInput_spec (s := on) hp
    refine ⟨fun hout => ?_, fun hin q hq hlow => ?_⟩
    · obtain ⟨hlink, hstore, hevent, hthrough⟩ := rejectMarker_spec (closeInput on)
      rw [hexec, takeMarker_bad (mt hok.mpr hout), if_pos (show on.link.assembly = .open from hopen)]
      refine ⟨_, rfl, hlink, hevent, ?_, ?_, hthrough, ?_⟩
      · simp only [counted, hstore]
        exact ⟨hcbad, hcdropped⟩
      · rw [hstore]; exact hcstore
      · rw [hstore]; exact hcpages
    · have hfree : pageIn .free (closeInput on).store.pages = some q := by
        refine pageIn_of_lowest ?_ fun j hj => ?_
        · rw [hcpages]; exact hq
        · rw [hcpages]; exact hlow j hj
      obtain ⟨-, hstore, hothers, hrole, hseq, hsize, hline⟩ := openInput_spec hfree seq w.toNat h.toNat
      rw [hexec, takeMarker_ok (hok.mp hin), if_pos (show on.link.assembly = .open from hopen)]
      refine ⟨_, rfl, rfl, rfl, ?_, ?_, rfl, rfl, fun j hj => ?_, hrole, hseq, hsize, fun y => ?_⟩
      · exact ⟨(congrArg FrameStore.bad hstore).trans hcbad, (congrArg FrameStore.dropped hstore).trans hcdropped⟩
      · exact FrameStore.pages_of_pages_and_counters hstore hcstore
      · rw [hothers j hj]; exact hcpages j
      · rw [hline, hcpages, show (closeInput on).store.fill = s.store.fill from (congrArg FrameStore.fill hcstore).trans rfl]
        rfl

/-! ## Lines (R4, R5) -/

theorem mem_insertGood (n m : Nat) (good : List Nat) : m ∈ insertGood n good ↔ m = n ∨ m ∈ good := by
  induction good with
  | nil => simp [insertGood]
  | cons k rest ih =>
    simp only [insertGood]
    split
    · simp
    · split
      · next h => simp [h]
      · simp only [List.mem_cons, ih]
        tauto

theorem contains_insertGood (n m : Nat) (good : List Nat) :
    (insertGood n good).contains m = (good.contains m || m == n) := by
  rw [Bool.eq_iff_iff]
  simp [mem_insertGood, or_comm]

section
variable {s : State} {p : Fin 3} (hp : pageIn .write s.store.pages = some p) {line count : Nat} {px : List Rgb} {ok : Bool}
include hp

theorem writePage_eq : writePage s = s.store.pages[p] := by
  simp only [writePage, hp]

theorem lineGood_iff :
    lineGood s line count px ok = true ↔
      ok = true ∧ px.length = count ∧ line < s.store.pages[p].height ∧ count = s.store.pages[p].width := by
  simp only [lineGood, writePage_eq hp, Bool.and_eq_true, beq_iff_eq, decide_eq_true_eq, and_assoc]

/-- R4: a good line is written at its line number and joins the good lines. -/
theorem judgeLine_good (h : lineGood s line count px ok = true) :
    judgeLine line count px ok s =
      { s with
        link := { s.link with good := insertGood line s.link.good }
        store := { s.store with pages := modifyAt s.store.pages p fun q => q.writeLine line px } } := by
  simp only [judgeLine, if_pos h, hp]

omit hp in
theorem judgeLine_bad (h : ¬ lineGood s line count px ok = true) :
    judgeLine line count px ok s = { s with link := { s.link with lineBad := s.link.lineBad.inc } } := if_neg h

theorem takeLine_open (ho : s.link.assembly = .open) :
    takeLine line count px ok s =
      if ok = true ∧ line + 1 = s.store.pages[p].height then closeInput (judgeLine line count px ok s)
      else judgeLine line count px ok s := by
  simp only [takeLine, if_pos ho, writePage_eq hp]

/-- R5: the state in which the last line closes the input frame. -/
theorem judgeLine_spec :
    let t := judgeLine line count px ok s
    let good := lineGood s line count px ok
    t = { s with link := t.link, store := t.store } ∧ t.store = { s.store with pages := t.store.pages }
      ∧ t.link.assembly = s.link.assembly ∧ t.link.lineBad = (if good then s.link.lineBad else s.link.lineBad.inc)
      ∧ (∀ m, t.link.good.contains m = (s.link.good.contains m || good && m == line))
      ∧ t.store.pages[p] = (if good then s.store.pages[p].writeLine line px else s.store.pages[p])
      ∧ ∀ q : Fin 3, q ≠ p → t.store.pages[q] = s.store.pages[q] := by
  intro t good
  by_cases h : lineGood s line count px ok = true
  · have ht : t = _ := judgeLine_good hp h
    have hgood : good = true := h
    rw [ht, hgood]
    refine ⟨rfl, rfl, rfl, rfl, fun m => ?_, ?_, fun q hq => ?_⟩
    · rw [contains_insertGood, Bool.true_and]
    · simp
    · simp [show ¬ q.val = p.val from fun h => hq (Fin.ext h)]
  · have ht : t = _ := judgeLine_bad h
    have hgood : good = false := Bool.eq_false_iff.mpr h
    rw [ht, hgood]
    exact ⟨rfl, rfl, rfl, rfl, fun m => by rw [Bool.false_and, Bool.or_false], rfl, fun _ _ => rfl⟩

theorem judgeLine_pageIn : pageIn .write (judgeLine line count px ok s).store.pages = some p := by
  obtain ⟨-, -, -, -, -, hpage, hothers⟩ := judgeLine_spec hp (line := line) (count := count) (px := px) (ok := ok)
  obtain ⟨hrole, hlow⟩ := pageIn_eq_some hp
  refine pageIn_of_lowest ?_ fun j hj => ?_
  · rw [hpage]
    split
    · exact hrole
    · exact hrole
  · rw [hothers j hj.ne]
    exact hlow j hj

end

/-- Settles O37. -/
theorem linesJudged : Obligations.LinesJudged := by
  intro s line count pixels check bytes row
  let on := s.passOn bytes
  have hexec : exec row s = .next (takeLine line.toNat count.toNat (pixelsCarried pixels) (checkRight bytes) on) := rfl
  refine ⟨fun hclosed => ?_, fun p hopen hp => ?_⟩
  · rw [hexec, takeLine, if_neg (show ¬ on.link.assembly = .open from hclosed)]
  · intro good
    have hgood := lineGood_iff (s := on) hp (line := line.toNat) (count := count.toNat) (px := pixelsCarried pixels)
      (ok := checkRight bytes)
    have hspec := judgeLine_spec (s := on) hp (line := line.toNat) (count := count.toNat) (px := pixelsCarried pixels)
      (ok := checkRight bytes)
    rw [hexec, takeLine_open (s := on) hp hopen]
    refine ⟨fun hg hmore => ?_, fun hbad hnot => ?_, fun hcheck hlast => ?_⟩
    · rw [if_neg fun h => hmore h.2, judgeLine_good (s := on) hp (hgood.mpr hg)]
      refine ⟨_, rfl, hopen, rfl, fun n => mem_insertGood _ _ _, ?_, fun q hq => ?_, rfl, rfl⟩
      · simp [on]
      · simp [on, show ¬ q.val = p.val from fun h => hq (Fin.ext h)]
    · rw [if_neg (show ¬ (checkRight bytes = true ∧ line.toNat + 1 = on.store.pages[p].height) from hnot),
        judgeLine_bad (mt hgood.mp hbad)]
      exact ⟨_, rfl, rfl, rfl, rfl⟩
    · intro goodNow enough judged
      rw [if_pos ⟨hcheck, hlast⟩]
      have hnow : lineGood on line.toNat count.toNat (pixelsCarried pixels) (checkRight bytes) = decide goodNow := by
        rw [Bool.eq_iff_iff, hgood, decide_eq_true_eq]
        have hline : line.toNat < s.store.pages[p].height := by omega
        exact ⟨fun ⟨_, hlen, _, hwidth⟩ => ⟨hwidth, hlen⟩, fun ⟨hwidth, hlen⟩ => ⟨hcheck, hlen, hline, hwidth⟩⟩
      obtain ⟨hjframe, hjstore, -, hjbad, hjgood, hjpage, hjothers⟩ := hspec
      simp only [hnow, decide_eq_true_eq] at hjbad hjpage
      simp only [hnow] at hjgood
      obtain ⟨-, hcstore, hcbad, hcdropped, hcpages⟩ := closeInput_spec (judgeLine_pageIn (s := on) hp
        (line := line.toNat) (count := count.toNat) (px := pixelsCarried pixels) (ok := checkRight bytes))
      generalize hj : judgeLine line.toNat count.toNat (pixelsCarried pixels) (checkRight bytes) on = j at *
      have hheight : j.store.pages[p].height = s.store.pages[p].height := by
        rw [hjpage]; split <;> rfl
      have henough : (((List.range j.store.pages[p].height).filter fun y => !j.link.good.contains y).length
          ≤ j.store.missingLimit) = enough := by
        rw [hheight, show j.store.missingLimit = s.store.missingLimit from (congrArg FrameStore.missingLimit hjstore).trans rfl]
        simp only [hjgood, Bool.not_or]
        rfl
      simp only [henough] at hcbad hcdropped hcpages
      have hroles : ∀ q : Fin 3, j.store.pages[q].role = s.store.pages[q].role := fun q => by
        by_cases hq : q = p
        · rw [hq, hjpage]; split <;> rfl
        · rw [hjothers q hq]; rfl
      refine ⟨_, rfl, rfl, rfl, hjbad, ?_, fun q hq => ?_, ?_, ?_, ?_, ?_⟩
      · rw [hcpages, closedRole, if_pos rfl, hjpage]
        rfl
      · rw [hcpages, closedRole, if_neg hq, hjothers q hq, Page.role_ite]
        rfl
      · rw [hcbad, show j.store.bad = s.store.bad from (congrArg FrameStore.bad hjstore).trans rfl]
      · rw [hcdropped, show j.store.dropped = s.store.dropped from (congrArg FrameStore.dropped hjstore).trans rfl]
        simp only [hroles]
      · exact (congrArg (fun u : State => u.out.through) hjframe).trans rfl
      · exact (congrArg State.events hjframe).trans rfl

end Sys2Proof.Machine
end

section
/-! Margin packets, the packets of the chain ports, and the return lane (R50, R51, R54, R160–R164, R168, R169, R176). -/

namespace Sys2Proof.Machine

/-! ## Margin packets (R160, R161, R164) -/

theorem framingOk_iff (body : List Byte) :
    framingOk body = true ↔ 7 ≤ body.length ∧ u16 body 3 ≤ 1024 ∧ u16 body 3 + 7 = body.length := by
  simp only [framingOk, Bool.and_eq_true, decide_eq_true_eq, beq_iff_eq, and_assoc]
  omega

theorem groupMatches_iff (i : Intake) (a : Byte) :
    groupMatches i a = true ↔ ∃ g ∈ i.slot3, a &&& i.mask = g &&& i.mask := by
  cases h : i.slot3 <;> simp [groupMatches, h]

theorem takeMargin_framing {body : List Byte} (h : framingOk body = false) (s : State) :
    takeMargin body s = (countFraming s).passOn (3 :: body) := by
  simp only [takeMargin, judgeMargin, h, Bool.false_eq_true, if_false]

theorem takeMargin_check {body : List Byte} (h : framingOk body = true) (hc : checkRight (3 :: body) = false)
    (s : State) : takeMargin body s = (countCheck s).passOn (3 :: body) := by
  simp only [takeMargin, judgeMargin, h, hc, Bool.false_eq_true, if_false, if_true]

theorem takeMargin_misplaced {body : List Byte} {s : State} (h : framingOk body = true)
    (hc : checkRight (3 :: body) = true) (ha : s.link.assembly = .open) :
    takeMargin body s = (countMisplaced s).passOn (3 :: body) := by
  simp only [takeMargin, judgeMargin, h, hc, ha, if_true]

theorem takeMargin_passed {body : List Byte} {s : State} (h : framingOk body = true)
    (hc : checkRight (3 :: body) = true) (ha : s.link.assembly ≠ .open) : takeMargin body s = routeMargin body s := by
  simp only [takeMargin, judgeMargin, h, hc, ha, if_true, if_false]

theorem routeMargin_none {body : List Byte} {s : State} (h : matchAddress s.intake (body.getD 0 0) = none) :
    routeMargin body s = s.passOn (3 :: body) := by
  simp only [routeMargin, h]

theorem routeMargin_direct {body : List Byte} {s : State} (h : matchAddress s.intake (body.getD 0 0) = some .direct) :
    routeMargin body s = offer (entryOf .direct body) s := by
  simp only [routeMargin, h]

theorem routeMargin_shared {body : List Byte} {s : State} {k : MatchKind}
    (h : matchAddress s.intake (body.getD 0 0) = some k) (hk : k ≠ .direct) :
    routeMargin body s = offer (entryOf k body) (s.passOn (3 :: body)) := by
  cases k with
  | direct => exact absurd rfl hk
  | group => simp only [routeMargin, h]
  | broadcast => simp only [routeMargin, h]

theorem offer_joins (e : Entry) {s : State} (h : s.intake.queue.length < 8) :
    (offer e s).intake.queue = s.intake.queue ++ [e] ∧ (offer e s).out = s.out ∧ (offer e s).ret = s.ret := by
  simp only [offer, Config.intakeSize, h, if_true, lookIntake_queue, lookIntake_out, lookIntake_ret, and_self]

theorem offer_shared_full {e : Entry} {s : State} (h : 8 ≤ s.intake.queue.length) (hk : e.kind ≠ .direct) :
    offer e s = { s with intake := { s.intake with intakeFull := s.intake.intakeFull.inc } } := by
  rw [offer, if_neg (show ¬ s.intake.queue.length < Config.intakeSize from Nat.not_lt.mpr h)]
  split
  · next hd => exact absurd hd hk
  · rfl
  · rfl

theorem offer_direct_full {e : Entry} {s : State} (h : 8 ≤ s.intake.queue.length) (hk : e.kind = .direct) :
    offer e s = replyFull e s := by
  simp only [offer, if_neg (show ¬ s.intake.queue.length < Config.intakeSize from Nat.not_lt.mpr h), hk]

/-- Settles O38. -/
theorem marginPacketsJudged : Obligations.MarginPacketsJudged := by
  refine fun s => ⟨fun bytes hwf => ?_, fun body => ?_⟩
  · have hu : unsorted bytes = true := hwf
    simp only [unsorted, Bool.and_eq_true, Bool.not_eq_true'] at hu
    obtain ⟨⟨⟨-, hmarker⟩, hline⟩, hmargin⟩ := hu
    refine congrArg Host.Outcome.next ?_
    simp only [takeForward, hmarker, hline, hmargin, Bool.false_eq_true, if_false]
  · intro framed on a match' entry
    have hframed : framed ↔ framingOk body = true := (framingOk_iff body).symm
    have hmatch : match' = matchAddress s.intake a := by
      simp only [match', matchAddress, groupMatches_iff]
    have hexec : exec (.marginPacket body) s = .next (takeMargin body s) := rfl
    refine ⟨fun hno => ?_, fun hyes hc => ?_, fun hyes hc ha => ?_, fun hyes hc ha => ?_⟩
    · rw [hframed, Bool.not_eq_true] at hno
      rw [hexec, takeMargin_framing hno]
      rfl
    · rw [hexec, takeMargin_check (hframed.mp hyes) hc]
      rfl
    · rw [hexec, takeMargin_misplaced (hframed.mp hyes) hc ha]
      rfl
    · have hentry : ∀ k, entryOf k body = entry k := fun k => by
        simp only [entryOf, entry, show u16 body 3 = body.length - 7 by have := hyes.2.2; omega]
      rw [hexec, takeMargin_passed (hframed.mp hyes) hc ha, hmatch]
      refine ⟨fun hm => congrArg _ (routeMargin_none hm), fun hroom hm => ?_, fun k hroom hm hk => ?_,
        fun k hfull hm hk => ?_, fun hfull hm hfree => ?_, fun hfull hm hfree => ?_⟩
      · rw [routeMargin_direct hm, hentry]
        exact ⟨_, rfl, offer_joins _ hroom⟩
      · rw [routeMargin_shared hm hk, hentry]
        exact ⟨_, rfl, offer_joins (s := on) _ hroom⟩
      · rw [routeMargin_shared hm hk]
        exact congrArg _ (offer_shared_full (s := on) hfull hk)
      · rw [routeMargin_direct hm, offer_direct_full hfull rfl, replyFull, if_pos hfree]
      · rw [routeMargin_direct hm, offer_direct_full hfull rfl, replyFull, if_neg hfree]
        rfl

/-! ## Packets from the tiles (R50, R51, R54, R182) -/

theorem readIdentityRecord_eq_none_iff (p : List Byte) :
    readIdentityRecord p = none ↔ p.length ≠ 14 ∨ u8 p 0 ≠ 0xC8 ∨ checkRight p = false := by
  unfold readIdentityRecord
  split <;> simp_all
  tauto

theorem readTileReport_eq_none_iff (p : List Byte) :
    readTileReport p = none ↔ p.length ≠ 7 ∨ u8 p 0 ≠ 0xC9 ∨ checkRight p = false := by
  unfold readTileReport
  split <;> simp_all
  tauto

theorem exec_identityArrival {bytes : List Byte} {i : Identity} (h : readIdentityRecord bytes = some i) (c : Fin 8)
    (s : State) : exec (.identityArrival c bytes) s = .next (takeIdentity c i s) := by
  simp only [exec, execIdentityArrival, h]

theorem exec_tileReportArrival {bytes : List Byte} {position : Nat} {r : TileReport}
    (h : readTileReport bytes = some (position, r)) (c : Fin 8) (s : State) :
    exec (.tileReportArrival c bytes) s = .next (takeReport c position r s) := by
  simp only [exec, execTileReportArrival, h]

theorem takeIdentity_ignored {c : Fin 8} {s : State}
    (h : s.ports[c].windowOpen = false ∨ s.ports[c].state = .off ∨ s.ports[c].state = .run ∨ s.ports[c].state = .failed)
    (i : Identity) : takeIdentity c i s = s := by
  unfold takeIdentity
  obtain h | h | h | h := h <;> simp only [h, Bool.false_eq_true, if_false, ite_self]

theorem takeIdentity_probe {c : Fin 8} {s : State} (hw : s.ports[c].windowOpen = true)
    (hs : s.ports[c].state = .probe) (i : Identity) :
    takeIdentity c i s = s.modifyPort c fun p => { p with answered := true } := by
  simp only [takeIdentity, hw, hs, if_true]

theorem takeIdentity_enumerate {c : Fin 8} {s : State} (hw : s.ports[c].windowOpen = true)
    (hs : s.ports[c].state = .enumerate) (i : Identity) : takeIdentity c i s = collect c i s := by
  simp only [takeIdentity, hw, hs, if_true]

theorem collect_joins {c : Fin 8} {s : State} (h : s.ports[c].collection.length < 16) (i : Identity) :
    collect c i s = s.modifyPort c fun p => { p with collection := p.collection ++ [i] } := if_pos h

theorem collect_overlong {c : Fin 8} {s : State} (h : 16 ≤ s.ports[c].collection.length)
    (ho : s.ports[c].overlong = false) (i : Identity) :
    collect c i s = raise .rosterOverlong (s.modifyPort c fun p => { p with overlong := true }) := by
  simp only [collect, Nat.not_lt.mpr h, ho, Bool.false_eq_true, if_false]

theorem collect_discards {c : Fin 8} {s : State} (h : 16 ≤ s.ports[c].collection.length)
    (ho : s.ports[c].overlong = true) (i : Identity) : collect c i s = s := by
  simp only [collect, Nat.not_lt.mpr h, ho, if_true, if_false]

theorem takeReport_not_run {c : Fin 8} {s : State} (h : s.ports[c].state ≠ .run) (position : Nat) (r : TileReport) :
    takeReport c position r s = s := if_neg h

theorem takeReport_beyond {c : Fin 8} {s : State} {position : Nat} (h : s.ports[c].state = .run)
    (hp : s.ports[c].roster.length ≤ position ∨ 16 ≤ position) (r : TileReport) :
    takeReport c position r s = raise .rosterStale s :=
  (if_pos h).trans (dif_neg fun hin => by omega)

theorem takeReport_reported {c : Fin 8} {s : State} {position : Nat} (h : s.ports[c].state = .run)
    (hp : position < s.ports[c].roster.length) (h16 : position < 16) (r : TileReport) :
    takeReport c position r s =
      s.modifyPort c fun p =>
        { p with
          reports := modifyAt p.reports ⟨position, h16⟩ (Position.report r)
          linkErrors := p.linkErrors.add r.errors } :=
  (if_pos h).trans (dif_pos ⟨h16, hp⟩)

/-- Settles O49. -/
theorem chainArrivals : Obligations.ChainArrivals := by
  refine fun s c bytes => ⟨fun h => ?_, fun i hi => ?_, fun h => ?_, fun position r hr => ?_⟩
  · simp only [exec, execIdentityArrival, (readIdentityRecord_eq_none_iff bytes).mpr h]
  · rw [exec_identityArrival hi]
    refine ⟨fun h => congrArg _ (takeIdentity_ignored h i), fun hw hs => congrArg _ (takeIdentity_probe hw hs i),
      fun hw hs hlen => ?_, fun hw hs hlen ho => ?_, fun hw hs hlen ho => ?_⟩
    · rw [takeIdentity_enumerate hw hs, collect_joins hlen]
    · rw [takeIdentity_enumerate hw hs, collect_overlong hlen ho]
      refine ⟨rfl, _, rfl, raise_has _ _, ?_, fun d hd => ?_⟩
      · rw [raise_ports, modifyPort_self]
      · rw [raise_ports, modifyPort_other s hd]
    · rw [takeIdentity_enumerate hw hs, collect_discards hlen ho]
  · simp only [exec, execTileReportArrival, (readTileReport_eq_none_iff bytes).mpr h]
  · rw [exec_tileReportArrival hr]
    refine ⟨fun h => congrArg _ (takeReport_not_run h position r), fun h hp => congrArg _ (takeReport_beyond h hp r),
      fun h hp h16 => ⟨_, rfl, ?_⟩⟩
    rw [takeReport_reported h hp h16]
    refine ⟨rfl, fun d hd => modifyPort_other s hd _, ?_, fun j => ?_⟩
    · rw [modifyPort_self]
    · rw [modifyPort_self]
      by_cases hj : j.val = position
      · obtain rfl : j = ⟨position, h16⟩ := Fin.ext hj
        simp [Position.report]
      · simp [hj]

/-! ## The return lane (R168, R169, R176) -/

theorem completeSend_quiet {s : State} (h : s.events.due = false) : completeSend s = nextSend s := by
  obtain ⟨-, e⟩ | ⟨-, e⟩ := completeSend_cases s <;> rw [e]
  exact if_neg (by simp [nextSend, h])

/-- R169: which queue the arbiter serves does not ask the event unit. -/
theorem startSend_setEvents (s : State) (u : EventUnit) : startSend (s.setEvents u) = (startSend s).setEvents u := by
  simp only [startSend, State.setEvents]
  split <;> try rfl
  split <;> rfl

/-- R169, R176: a packet placed in the own queue, the arbiter and the executor's look said apart. -/
theorem placeOwn_spec (p : ReturnPacket) {s : State}
    (hidle : s.ret.sending = none → s.ret.own = [] ∧ s.ret.pass = []) :
    (s.ret.sending.isSome = true →
        (placeOwn p s).ret = { s.ret with own := s.ret.own ++ [p] } ∧ (placeOwn p s).out = s.out)
      ∧ (s.ret.sending = none →
          (placeOwn p s).ret = { s.ret with last := .own, sending := some p.bytes }
            ∧ (placeOwn p s).out = { s.out with upstream := s.out.upstream ++ [p.bytes] })
      ∧ (placeOwn p s).intake =
        { s.intake with
          executor :=
            if s.intake.headDirect = true ∧ (placeOwn p s).ret.free = 0 then .waiting else s.intake.executor } := by
  refine ⟨fun h => ?_, fun h => ?_, ?_⟩
  · rw [placeOwn, lookIntake_ret, lookIntake_out,
      startSend_of_sending (s := { s with ret := { s.ret with own := s.ret.own ++ [p] } }) h]
    exact ⟨rfl, rfl⟩
  · obtain ⟨ho, hp⟩ := hidle h
    rw [placeOwn, lookIntake_ret, lookIntake_out,
      startSend_single (s := { s with ret := { s.ret with own := s.ret.own ++ [p] } }) (p := p) h (by simp [ho]) hp]
    refine ⟨?_, rfl⟩
    simp only [sendFrom, ho, hp]
  · rw [placeOwn, lookIntake_intake, lookIntake_ret, startSend_intake]

theorem exec_sendCompletion {s : State} (h : s.ret.sending.isSome = true) :
    exec .sendCompletion s = .next (completeSend s) :=
  congrArg Host.Outcome.next (if_pos h)

theorem slotContested_eq_false_iff (i : Intake) :
    slotContested i = false ↔ i.executor ≠ .waiting ∧ i.queue.length < 8 := by
  simp [slotContested, Config.intakeSize]

theorem startSend_frame (s : State) : startSend s = { s with ret := (startSend s).ret, out := (startSend s).out } := by
  obtain ⟨e, -⟩ | ⟨p, own, -, -, -, e⟩ | ⟨q, pass, -, -, -, e⟩ := startSend_cases s <;> rw [e] <;> rfl

theorem nextSend_frame (s : State) : nextSend s = { s with ret := (nextSend s).ret, out := (nextSend s).out } :=
  (startSend_frame { s with ret := { s.ret with sending := none } }).trans rfl

theorem nextSend_intake (s : State) : (nextSend s).intake = s.intake := by simp [nextSend]

theorem nextSend_events (s : State) : (nextSend s).events = s.events := by simp [nextSend]

/-- R176: the notice a send completion queues in the slot it has freed. -/
theorem noticeSent_after_send (s : State) :
    let u := nextSend s
    let notice := ReturnPacket.notice s.intake.slot0 (statusByte s) (s.events.groups.setWidth 8)
    queueNotice u = placeOwn notice (u.setEvents s.events.noticeSent) := by
  intro u notice
  have hstatus : statusByte u = statusByte s := (congrArg statusByte (nextSend_frame s)).trans rfl
  rw [queueNotice, hstatus, nextSend_intake, nextSend_events]

/-- Settles O50. -/
theorem returnLaneAlternates : Obligations.ReturnLaneAlternates := by
  refine fun s => ⟨fun bytes => ⟨fun h => ?_, fun h hs => ?_, fun hs ho hp => ?_⟩, fun h => ?_,
    fun hs hd => ?_, fun hs hd => ?_⟩
  · exact congrArg Host.Outcome.next (if_neg (Nat.not_lt.mpr h))
  · exact (congrArg Host.Outcome.next (if_pos h)).trans
      (congrArg Host.Outcome.next
        (startSend_of_sending (s := { s with ret := { s.ret with pass := s.ret.pass ++ [bytes] } }) hs))
  · refine ⟨_, congrArg Host.Outcome.next (if_pos (by simp [hp, Config.passSize])), ?_⟩
    simp [appendPass, startSend, hs, ho, hp, sendFrom]
  · exact congrArg Host.Outcome.next (if_neg (by simp [h]))
  · rw [exec_sendCompletion hs, completeSend_quiet hd, nextSend]
    obtain ⟨e, hidle⟩ | ⟨p, own, -, ho, hp, e⟩ | ⟨q, pass, -, hp, ho, e⟩ :=
      startSend_cases { s with ret := { s.ret with sending := none } } <;> rw [e]
    · obtain ⟨hnoOwn, hnoPass⟩ := hidle rfl
      exact ⟨fun _ _ => rfl, fun p own ho => absurd (hnoOwn.symm.trans ho) (by simp),
        fun q pass hp => absurd (hnoPass.symm.trans hp) (by simp)⟩
    · refine ⟨fun hno => ?_, fun p' own' ho' _ => ?_, fun q pass hp' ho' => ?_⟩
      · exact absurd (hno.symm.trans ho) (by simp)
      · obtain ⟨rfl, rfl⟩ := List.cons.inj (ho'.symm.trans ho)
        rfl
      · obtain hno | hlast := ho'
        · exact absurd (hno.symm.trans ho) (by simp)
        · obtain hno | hlast' := hp
          · exact absurd (hno.symm.trans hp') (by simp)
          · exact absurd (hlast.symm.trans hlast') (by decide)
    · refine ⟨fun _ hno => ?_, fun p own ho' hp' => ?_, fun q' pass' hp' _ => ?_⟩
      · exact absurd (hno.symm.trans hp) (by simp)
      · obtain hno | hlast := hp'
        · exact absurd (hno.symm.trans hp) (by simp)
        · obtain hno | hlast' := ho
          · exact absurd (hno.symm.trans ho') (by simp)
          · exact absurd (hlast.symm.trans hlast') (by decide)
      · obtain ⟨rfl, rfl⟩ := List.cons.inj (hp'.symm.trans hp)
        rfl
  · have hquiet : nextSend { s with events := { s.events with due := false } }
        = (nextSend s).setEvents { s.events with due := false } :=
      startSend_setEvents { s with ret := { s.ret with sending := none } } _
    have hframe := nextSend_frame s
    have hsame : nextSend s = { (nextSend s).setEvents { s.events with due := false } with events := s.events } := by
      rw [hframe]
      rfl
    refine ⟨(nextSend s).setEvents { s.events with due := false }, ?_, fun h => ?_, ?_⟩
    · rw [exec_sendCompletion (s := { s with events := { s.events with due := false } }) hs,
        completeSend_quiet rfl, hquiet]
    · rw [exec_sendCompletion hs, ← hsame]
      obtain ⟨-, e⟩ | ⟨hopen, e⟩ := completeSend_cases s <;> rw [e]
      obtain ⟨hnotWaiting, hroom⟩ := (slotContested_eq_false_iff _).mp hopen
      obtain h | h | h := h
      · exact absurd h hnotWaiting
      · omega
      · have hfree : (nextSend s).ret.free = 0 := h
        rw [tryNotice, hfree]
        simp
    · intro hw hroom hfree notice
      have hcomplete : completeSend s = placeOwn notice ((nextSend s).setEvents s.events.noticeSent) := by
        obtain ⟨hcontested, -⟩ | ⟨-, e⟩ := completeSend_cases s
        · exact absurd ((slotContested_eq_false_iff _).mpr ⟨hw, hroom⟩) (by simp [hcontested])
        · rw [e, ← noticeSent_after_send]
          refine if_pos ?_
          rw [Bool.and_eq_true, bne_iff_ne, nextSend_events]
          exact ⟨hd, hfree⟩
      obtain ⟨hsending, hlane, hintake⟩ := placeOwn_spec notice (s := (nextSend s).setEvents s.events.noticeSent)
        (fun h => startSend_idle { s with ret := { s.ret with sending := none } } h)
      refine ⟨_, exec_sendCompletion hs, ?_⟩
      rw [hcomplete]
      refine ⟨placeOwn_events .., hsending, hlane, hintake.trans ?_, ?_⟩
      · rw [hframe]
        rfl
      · apply State.eq_of_blocks <;> simp [nextSend]

end Sys2Proof.Machine
end

section
/-! What an output frame start makes of each block (R8, R10–R12, R17, R62, R67, R87, R90, R141, R143, Table 1-7). -/

namespace Sys2Proof.Machine

/-! ## Flags stay set -/

theorem raise_has_of {x : Source} {s : State} (e : Source) (h : s.events.has x = true) :
    (raise e s).events.has x = true := by
  rw [EventUnit.has] at h ⊢
  rw [raise_flags, BitVec.getLsbD_or, h, Bool.true_or]

theorem raiseWhen_has_of {x : Source} {s : State} (b : Bool) (e : Source) (h : s.events.has x = true) :
    (raiseWhen b e s).events.has x = true := by
  cases b
  · exact h
  · exact raise_has_of e h

theorem raiseWhen_links (b : Bool) (e : Source) (s : State) : SameLinks s (raiseWhen b e s) := by
  cases b
  · exact ⟨rfl, rfl, rfl⟩
  · exact raise_links e s

/-! ## The frame store (R8, R10, R11, R12) -/

/-- A frame start's blocks that the frame store's work leaves alone. -/
def SameButStore (s t : State) : Prop :=
  t.pins = s.pins ∧ t.link = s.link ∧ t.timing = s.timing ∧ t.looks = s.looks ∧ t.comp = s.comp ∧ t.ports = s.ports
    ∧ t.power = s.power ∧ t.thermal = s.thermal ∧ t.cues = s.cues ∧ t.lights = s.lights ∧ t.follow = s.follow
    ∧ t.intake.queue = s.intake.queue ∧ SameLinks s t

theorem SameButStore.raise {s t : State} (h : SameButStore s t) (e : Source) : SameButStore s (Machine.raise e t) := by
  obtain ⟨hthrough, hchains, hlights⟩ := raise_links e t
  simpa only [SameButStore, SameLinks, raise_pins, raise_link, raise_timing, raise_looks, raise_comp, raise_ports,
    raise_power, raise_thermal, raise_cues, raise_lights, raise_follow, raise_queue, hthrough, hchains, hlights] using h

theorem SameButStore.setStore {s t : State} (h : SameButStore s t) (st : FrameStore) :
    SameButStore s { t with store := st } := h

theorem SameButStore.endLoss {s t : State} (h : SameButStore s t) : SameButStore s (Machine.endLoss t) := by
  unfold Machine.endLoss
  split
  · exact (h.setStore _).raise _
  · exact h

theorem SameButStore.raiseLoss {s t : State} (h : SameButStore s t) : SameButStore s (Machine.raiseLoss t) := by
  unfold Machine.raiseLoss
  split
  · exact (h.setStore _).raise _
  · exact h

theorem storeFrameStart_others (s : State) : SameButStore s (storeFrameStart s).1 :=
  (SameButStore.raiseLoss (SameButStore.endLoss (t := { s with store := settlePages s.store })
    ⟨rfl, rfl, rfl, rfl, rfl, rfl, rfl, rfl, rfl, rfl, rfl, rfl, rfl, rfl, rfl⟩)).setStore _

theorem endLoss_quiet {s : State} (h : s.store.lossActive = false ∨ s.store.repeats ≠ 0) : endLoss s = s :=
  if_neg fun hyes => by simp only [Bool.and_eq_true, beq_iff_eq] at hyes; simp [hyes] at h

theorem endLoss_ends {s : State} (h : s.store.lossActive = true) (hr : s.store.repeats = 0) :
    endLoss s = raise .inputRestored { s with store := { s.store with lossActive := false } } :=
  if_pos (by rw [h, hr]; rfl)

theorem raiseLoss_quiet {s : State} (h : lossDue s.store = false) : raiseLoss s = s := if_neg (by rw [h]; decide)

theorem raiseLoss_raises {s : State} (h : lossDue s.store = true) :
    raiseLoss s = raise .inputLoss { s with store := { s.store with lossActive := true } } := if_pos h

/-- R8: the LATEST page becomes READ, and the page that was READ becomes FREE. -/
theorem pageIn_read_settled {p : Fin 3} {pages : Vector Page 3} (h : pageIn .latest pages = some p) :
    pageIn .read (moveRole .latest .read (moveRole .read .free pages)) = some p := by
  obtain ⟨hp, hlow⟩ := pageIn_eq_some h
  refine pageIn_of_lowest ?_ fun j hj => ?_
  · simp only [Fin.getElem_fin] at hp
    simp [hp]
  · have hj' := hlow j hj
    simp only [Fin.getElem_fin] at hj'
    by_cases hr : pages[j.val].role = .read <;> simp [hr, hj']

/-- R8, R10, R12: a frame start that makes a page READ. -/
theorem storeFrameStart_latest {s : State} {p : Fin 3} (h : pageIn .latest s.store.pages = some p) :
    (storeFrameStart s).1.store =
        { s.store with
          pages := moveRole .latest .read (moveRole .read .free s.store.pages), repeats := 0, everRead := true
          inputState := .live, lossActive := false }
      ∧ (storeFrameStart s).2 = .page p
      ∧ (s.store.lossActive = true → (storeFrameStart s).1.events.has .inputRestored = true) := by
  have hsettle : settlePages s.store =
      { s.store with
        pages := moveRole .latest .read (moveRole .read .free s.store.pages), repeats := 0, everRead := true } := by
    simp only [settlePages, h]
  have hread := pageIn_read_settled h
  simp only [storeFrameStart, hsettle]
  cases hloss : s.store.lossActive with
  | false =>
    rw [endLoss_quiet (.inl rfl), raiseLoss_quiet rfl]
    simp [inputStateOf, pictureSource, hread]
  | true =>
    rw [endLoss_ends rfl rfl, raiseLoss_quiet (by simp [lossDue])]
    simp [inputStateOf, pictureSource, hread, raise_has]

/-- R8, R10, R11: a frame start that makes no page READ. -/
theorem storeFrameStart_repeat {s : State} (h : pageIn .latest s.store.pages = none) :
    let repeats := min 65535 (s.store.repeats + 1)
    let loss := s.store.lossActive || decide (s.store.holdLimit ≤ repeats)
    (storeFrameStart s).1.store =
        { s.store with
          repeats := repeats, repeated := s.store.repeated.inc, lossActive := loss
          inputState := inputStateOf { s.store with lossActive := loss } }
      ∧ (storeFrameStart s).2 = pictureSource { s.store with lossActive := loss } s.store.lossActive
      ∧ (s.store.lossActive = false → loss = true → (storeFrameStart s).1.events.has .inputLoss = true) := by
  intro repeats loss
  have hpos : repeats ≠ 0 := by simp only [repeats]; omega
  have hsettle : settlePages s.store = { s.store with repeated := s.store.repeated.inc, repeats := repeats } := by
    simp only [settlePages, h, repeats]
  have hdue : lossDue { s.store with repeated := s.store.repeated.inc, repeats := repeats }
      = (!s.store.lossActive && decide (s.store.holdLimit ≤ repeats)) := by
    simp only [lossDue, show (repeats != 0) = true from bne_iff_ne.mpr hpos, Bool.and_true]
  simp only [storeFrameStart, hsettle]
  rw [endLoss_quiet (.inr hpos)]
  cases hd : lossDue { s.store with repeated := s.store.repeated.inc, repeats := repeats } with
  | false =>
    have hloss : loss = s.store.lossActive :=
      (show ∀ a d : Bool, (!a && d) = false → (a || d) = a by decide) _ _ (hdue.symm.trans hd)
    rw [raiseLoss_quiet hd, hloss]
    exact ⟨rfl, rfl, fun ha ht => by simp [ha] at ht⟩
  | true =>
    have hloss : loss = true :=
      (show ∀ a d : Bool, (!a && d) = true → (a || d) = true by decide) _ _ (hdue.symm.trans hd)
    rw [raiseLoss_raises hd, hloss, raise_store]
    exact ⟨rfl, rfl, fun _ _ => raise_has _ _⟩

/-! ## The latched state (R61, R62, R67, R87, R141, R143) -/

theorem SameLinks.trans {s t u : State} (h : SameLinks s t) (h' : SameLinks t u) : SameLinks s u := by
  obtain ⟨hthrough, hchains, hlights⟩ := h
  obtain ⟨hthrough', hchains', hlights'⟩ := h'
  exact ⟨hthrough'.trans hthrough, hchains'.trans hchains, hlights'.trans hlights⟩

theorem takeLatch_links (source : PictureSource) (s : State) : SameLinks s (takeLatch source s) := by
  unfold takeLatch
  extract_lets latch
  exact raiseWhen_links _ _ { s with comp := latch }

/-- The blocks of the latched state but for the latch, the masters, the fades and the store. -/
theorem latchedState_others (s : State) :
    let t := latchedState s
    t.pins = s.pins ∧ t.link = s.link ∧ t.looks = s.looks ∧ t.ports = s.ports ∧ t.thermal = s.thermal
      ∧ t.cues = s.cues ∧ t.follow = s.follow ∧ t.intake.queue = s.intake.queue ∧ SameLinks s t := by
  intro t
  obtain ⟨hpins, hlink, -, hlooks, -, hports, -, hthermal, hcues, -, hfollow, hqueue, hlinks⟩ :=
    storeFrameStart_others (beginFrame s)
  refine ⟨?_, ?_, ?_, ?_, ?_, ?_, ?_, ?_, ?_⟩
  case refine_9 =>
    have hbegin : SameLinks s (beginFrame s) := ⟨rfl, rfl, rfl⟩
    have hsteps : ∀ u : State, SameLinks u (stepLightMaster (stepFades (stepMaster u))) := fun u => ⟨rfl, rfl, rfl⟩
    exact ((hbegin.trans hlinks).trans (hsteps _)).trans (takeLatch_links _ _)
  all_goals
    simp only [t, latchedState, takeLatch, raiseWhen_pins, raiseWhen_link, raiseWhen_looks, raiseWhen_ports,
      raiseWhen_thermal, raiseWhen_cues, raiseWhen_follow, raiseWhen_queue, stepLightMaster, stepFades, stepMaster]
  · exact hpins
  · exact hlink
  · exact hlooks
  · exact hports
  · exact hthermal
  · exact hcues
  · exact hfollow
  · exact hqueue

/-- R87: the wall master and its ramp step. -/
theorem latchedState_power (s : State) :
    (latchedState s).power =
      { s.power with master := s.power.ramp.value s.power.master, ramp := s.power.ramp.step } := by
  obtain ⟨-, -, -, -, -, -, hpower, -⟩ := storeFrameStart_others (beginFrame s)
  simp only [latchedState, takeLatch, raiseWhen_power, stepLightMaster, stepFades, stepMaster, hpower]
  rfl

/-- R141, R143: the light master, its ramp and every fade step. -/
theorem latchedState_lights (s : State) :
    (latchedState s).lights =
      { s.lights with
        fixtures := mapAll (Fixture.mapAttrs Attr.step) s.lights.fixtures
        master := s.lights.ramp.value s.lights.master, ramp := s.lights.ramp.step } := by
  obtain ⟨-, -, -, -, -, -, -, -, -, hlights, -⟩ := storeFrameStart_others (beginFrame s)
  simp only [latchedState, takeLatch, raiseWhen_lights, stepLightMaster, stepFades, stepMaster, hlights]
  rfl

/-- R61, R62, R67, Table 4-1: the latch a frame start takes, on its state and on the picture source it fixes. -/
theorem latchedState_comp (s : State) :
    let source := (storeFrameStart (beginFrame s)).2
    let store := (latchedState s).store
    let master := s.power.ramp.value s.power.master
    (latchedState s).comp =
      { source := source, raster := latchedRaster store.pages source, fill := store.fill, look := s.looks.active
        types := namedTypes s.looks.active s.looks.types
        status := wallStatus s.looks.active (namedTypes s.looks.active s.looks.types) s.ports
        master := master, zoneScale := mapAll Zone.scale s.thermal.zones
        limiter := mapAll Limiter.scale s.power.limiters
        composite := mapAll (fun z => scaleBy master z.scale) s.thermal.zones } := by
  intro source store master
  obtain ⟨-, -, -, hlooks, -, hports, hpower, hthermal, -⟩ := storeFrameStart_others (beginFrame s)
  simp only [store, latchedState_store, latchedState, takeLatch, raiseWhen_comp, newLatch, stepLightMaster, stepFades,
    stepMaster, hlooks, hports, hpower, hthermal]
  rfl

theorem latchedState_has {x : Source} {s : State}
    (h : (storeFrameStart (beginFrame s)).1.events.has x = true) : (latchedState s).events.has x = true := by
  unfold latchedState takeLatch
  generalize (storeFrameStart (beginFrame s)).1 = u at h ⊢
  exact raiseWhen_has_of _ _ h

/-- R62: a slot that becomes MISMATCH raises TILE_MISMATCH. -/
theorem latchedState_mismatch {s : State}
    (h : mismatchArises s.comp.status (latchedState s).comp.status = true) :
    (latchedState s).events.has .tileMismatch = true := by
  obtain ⟨-, -, -, -, hcomp, -⟩ := storeFrameStart_others (beginFrame s)
  have hcomp' : (stepLightMaster (stepFades (stepMaster (storeFrameStart (beginFrame s)).1))).comp = s.comp := by
    simp only [stepLightMaster, stepFades, stepMaster, hcomp]
    rfl
  rw [latchedState, takeLatch, raiseWhen_comp] at h
  rw [latchedState, takeLatch, hcomp', h]
  exact raise_has _ _

/-! ## The blocks after an output frame start (R17) -/

theorem ChainPort.frameStart_keeps (p : ChainPort) : p.frameStart.state = p.state ∧ p.frameStart.roster = p.roster := by
  unfold ChainPort.frameStart
  split
  · split <;> exact ⟨rfl, rfl⟩
  all_goals exact ⟨rfl, rfl⟩

/-- R76, R90: a chain in RUN is measured, and the demand of what it sends adds up. -/
theorem power_measured_and_added (t : State) :
    (addDemand (sendPorts (markMeasured t))).power =
      { t.power with
        limiters := Vector.ofFn fun c : Fin 8 =>
          if t.ports[c].state = .run then
            { t.power.limiters[c] with
              measured := true
              acc := t.power.limiters[c].acc + chainDemand t.comp t.store.pages c t.ports[c].roster }
          else t.power.limiters[c] } := by
  have hlimiters : (addDemand (sendPorts (markMeasured t))).power.limiters =
      Vector.ofFn fun c : Fin 8 =>
        if t.ports[c].state = .run then
          { t.power.limiters[c] with
            measured := true
            acc := t.power.limiters[c].acc + chainDemand t.comp t.store.pages c t.ports[c].roster }
        else t.power.limiters[c] := by
    refine Vector.ext fun c hc => ?_
    obtain ⟨hstate, hroster⟩ := ChainPort.frameStart_keeps t.ports[c]
    simp only [addDemand, sendPorts, markMeasured, Vector.getElem_ofFn, mapAll_getElem, Fin.getElem_fin, hstate, hroster]
    split <;> rfl
  rw [← hlimiters]
  simp only [addDemand, sendPorts, markMeasured]

section
variable (s : State)

theorem frameStart_events : (frameStart s).events = (latchedState s).events := by
  rw [frameStart_eq]
  simp only [sendLevels, composeImages, stepFollow, measureRegions, addDemand, sendPorts, markMeasured]

theorem frameStart_comp : (frameStart s).comp = (latchedState s).comp := by
  rw [frameStart_eq]
  simp only [sendLevels, composeImages, stepFollow, measureRegions, addDemand, sendPorts, markMeasured]

theorem frameStart_lights : (frameStart s).lights = (latchedState s).lights := by
  rw [frameStart_eq]
  simp only [sendLevels, composeImages, stepFollow, measureRegions, addDemand, sendPorts, markMeasured]

theorem frameStart_timing :
    (frameStart s).timing =
      { s.timing with
        frame := s.timing.frame + 1, rate := s.timing.pendingRate.getD s.timing.rate, pendingRate := none
        phase := .active, held := false } := by
  rw [frameStart_eq]
  simp only [sendLevels, composeImages, stepFollow, measureRegions, addDemand, sendPorts, markMeasured,
    latchedState_timing]
  rfl

/-- The blocks an output frame start leaves alone. -/
theorem frameStart_others :
    (frameStart s).pins = s.pins ∧ (frameStart s).link = s.link ∧ (frameStart s).looks = s.looks
      ∧ (frameStart s).thermal = s.thermal ∧ (frameStart s).cues = s.cues
      ∧ (frameStart s).intake.queue = s.intake.queue := by
  obtain ⟨hpins, hlink, hlooks, -, hthermal, hcues, -, hqueue, -⟩ := latchedState_others s
  rw [frameStart_eq]
  simp only [sendLevels, composeImages, stepFollow, measureRegions, addDemand, sendPorts, markMeasured]
  exact ⟨hpins, hlink, hlooks, hthermal, hcues, hqueue⟩

theorem frameStart_ports : (frameStart s).ports = mapAll ChainPort.frameStart s.ports := by
  obtain ⟨-, -, -, hports, -⟩ := latchedState_others s
  rw [frameStart_eq]
  simp only [sendLevels, composeImages, stepFollow, measureRegions, addDemand, sendPorts, markMeasured, hports]

theorem frameStart_chains (c : Fin 8) :
    (frameStart s).out.chains[c] = portSends (latchedState s) c := by
  rw [frameStart_eq]
  generalize latchedState s = t
  simp only [sendLevels, composeImages, stepFollow, measureRegions, addDemand, sendPorts]
  rw [Fin.getElem_fin, Vector.getElem_ofFn]
  rfl

/-- R87, R90, R76: the master and its ramp step; a chain in RUN is measured, and the demand of what it sends adds up. -/
theorem frameStart_power :
    (frameStart s).power =
      { master := s.power.ramp.value s.power.master, ramp := s.power.ramp.step
        limiters := Vector.ofFn fun c : Fin 8 =>
          if s.ports[c].state = .run then
            { s.power.limiters[c] with
              measured := true
              acc := s.power.limiters[c].acc
                + chainDemand (latchedState s).comp (latchedState s).store.pages c s.ports[c].roster }
          else s.power.limiters[c] } := by
  obtain ⟨-, -, -, hports, -⟩ := latchedState_others s
  have hpower : (frameStart s).power = (addDemand (sendPorts (markMeasured (latchedState s)))).power := by
    rw [frameStart_eq]
    simp only [sendLevels, composeImages, stepFollow, measureRegions]
  rw [hpower, power_measured_and_added, hports, latchedState_power]

/-- R146, R147, R150: the regions are measured and the follow values step. -/
theorem frameStart_follow :
    (frameStart s).follow =
      { s.follow with
        running :=
          Vector.ofFn fun i =>
            measureRegion (latchedState s).comp (latchedState s).store.pages (latchedState s).comp.look.regions[i]
        values :=
          Vector.ofFn fun i =>
            stepFollowValue s.follow.published (latchedState s).lights.fixtures[i] s.follow.values[i]
        images := (frameStart s).follow.images } := by
  obtain ⟨-, -, -, -, -, -, hfollow, -⟩ := latchedState_others s
  rw [frameStart_eq, ← hfollow]
  simp only [sendLevels, composeImages, stepFollow, measureRegions, addDemand, sendPorts, markMeasured]

/-- R154: the slot images are composed from the stepped levels. -/
theorem frameStart_images (l : Fin 4) : (frameStart s).follow.images[l] = composeImage (frameStart s) l.val := by
  rw [frameStart_eq]
  generalize latchedState s = t
  simp only [sendLevels, composeImages, stepFollow, measureRegions, addDemand, sendPorts]
  rw [Fin.getElem_fin, Vector.getElem_ofFn]
  rfl

/-- R157: what goes out on the light lines. -/
theorem frameStart_levels (l : Fin 4) : (frameStart s).out.lights[l] = linePacketOf (frameStart s) l := by
  rw [frameStart_eq]
  generalize latchedState s = t
  simp only [sendLevels, composeImages, stepFollow, measureRegions, addDemand, sendPorts]
  rw [Fin.getElem_fin, Vector.getElem_ofFn]
  rfl

end

end Sys2Proof.Machine
end

section
/-! The reference events, and the work of an output frame start (R8, R10–R17, R50–R62, R67, R87, R141, R143, R154,
R157). -/

namespace Sys2Proof.Machine

/-! ## The reference (R14–R16) -/

theorem endLoss_has_of {x : Source} {s : State} (h : s.events.has x = true) : (endLoss s).events.has x = true := by
  unfold endLoss
  split
  · exact raise_has_of _ h
  · exact h

theorem raiseLoss_has_of {x : Source} {s : State} (h : s.events.has x = true) : (raiseLoss s).events.has x = true := by
  unfold raiseLoss
  split
  · exact raise_has_of _ h
  · exact h

theorem frameStart_has_of {x : Source} {s : State} (h : s.events.has x = true) : (frameStart s).events.has x = true := by
  rw [frameStart_events]
  exact latchedState_has (raiseLoss_has_of (endLoss_has_of h))

theorem startOrHold_active {s : State} (h : s.timing.phase = .active) :
    startOrHold s = { s with timing := { s.timing with held := true } } := if_pos h

theorem startOrHold_idle {s : State} (h : s.timing.phase ≠ .active) : startOrHold s = frameStart s := if_neg h

theorem raiseWhen_beq {α : Type} [DecidableEq α] (a b : α) (e : Source) (s : State) :
    raiseWhen (decide (a = b)) e s = if a = b then raise e s else s := by
  by_cases h : a = b
  · rw [decide_eq_true h, if_pos h]; rfl
  · rw [decide_eq_false h, if_neg h]; rfl

/-- Settles O39. -/
theorem referenceEvents : Obligations.ReferenceEvents := by
  intro s locked lost
  have hpulse : exec .refPulse s = .next (startOrHold (if s.timing.ref = .lost then raise .refRestored locked else locked)) := by
    refine congrArg (fun u => Host.Outcome.next (startOrHold u)) ?_
    have hbeq : (s.timing.ref == .lost) = decide (s.timing.ref = .lost) := rfl
    rw [hbeq, raiseWhen_beq]
    rfl
  refine ⟨fun hact => ?_, fun hact => ?_, fun href => ?_, fun href hact => ?_, fun href hact => ?_⟩
  · refine ⟨_, hpulse, ?_⟩
    split
    · next hlost =>
      rw [startOrHold_active (by rw [raise_timing]; exact hact)]
      refine ⟨by rw [raise_timing], fun _ => raise_has _ _, fun h => absurd hlost h, ?_, ?_⟩
      · exact raise_store _ _
      · exact raise_comp _ _
    · next hlost =>
      rw [startOrHold_active (s := locked) hact]
      exact ⟨rfl, fun h => absurd h hlost, fun _ => ⟨rfl, rfl⟩, rfl, rfl⟩
  · refine ⟨_, hpulse, ?_⟩
    split
    · next hlost =>
      rw [startOrHold_idle (by rw [raise_timing]; exact hact)]
      refine ⟨rfl, ?_, ?_, ?_, ?_, fun _ => frameStart_has_of (raise_has _ _)⟩ <;> rw [frameStart_timing, raise_timing]
    · next hlost =>
      rw [startOrHold_idle (s := locked) hact]
      refine ⟨rfl, ?_, ?_, ?_, ?_, fun h => absurd h hlost⟩ <;> rw [frameStart_timing]
  · exact congrArg Host.Outcome.next (if_neg href)
  · refine ⟨_, congrArg Host.Outcome.next (if_pos href), ?_⟩
    rw [startOrHold_active (by rw [raise_timing]; exact hact)]
    refine ⟨by rw [raise_timing]; rfl, raise_has _ _, raise_store _ _, raise_comp _ _⟩
  · refine ⟨_, congrArg Host.Outcome.next (if_pos href), ?_⟩
    rw [startOrHold_idle (by rw [raise_timing]; exact hact)]
    refine ⟨rfl, ?_, ?_, ?_, frameStart_has_of (raise_has _ _)⟩ <;> rw [frameStart_timing, raise_timing] <;> rfl

end Sys2Proof.Machine
end

section
/-! The work of an output frame start: slot images, slot statuses, ramps, ports (R50–R62, R87, R141, R143, R154, R157). -/

namespace Sys2Proof.Machine

/-! ## Slot images (R154) -/

/-- R131, R154: a present fixture of a line has a slot, counted from 0, in its footprint. -/
def Fixture.covers (f : Fixture) (line k : Nat) : Prop :=
  f.present = true ∧ f.line = line ∧ f.base - 1 ≤ k ∧ k < f.base - 1 + f.kind.slots

theorem slotValues_length (lm : Nat) (f : Fixture) (v : Rgb) : (slotValues lm f v).length = f.kind.slots := by
  unfold slotValues
  cases f.kind <;> rfl

theorem writeFootprint_eq (s : State) (line : Nat) (image : Vector Byte 320) (x : Fin 96) :
    writeFootprint s line image x =
      if s.lights.fixtures[x].present && s.lights.fixtures[x].line == line then
        writeRun image (s.lights.fixtures[x].base - 1)
          (slotValues s.lights.master s.lights.fixtures[x] s.follow.values[x])
      else image := rfl

theorem writeFootprint_getElem_other {s : State} {line k : Nat} {x : Fin 96} (h : ¬ s.lights.fixtures[x].covers line k)
    (image : Vector Byte 320) (hk : k < 320) : (writeFootprint s line image x)[k] = image[k] := by
  simp only [writeFootprint_eq]
  split
  · next hmine =>
    simp only [Bool.and_eq_true, beq_iff_eq] at hmine
    obtain ⟨hpresent, hline⟩ := hmine
    rw [writeRun_getElem]
    split
    · next hbase =>
      have hend : s.lights.fixtures[x].base - 1 + s.lights.fixtures[x].kind.slots ≤ k := by
        by_contra hlt
        exact h ⟨hpresent, hline, hbase, by omega⟩
      rw [List.getElem?_eq_none (by rw [slotValues_length]; omega), Option.getD_none]
    · rfl
  · rfl

theorem writeFootprint_getElem_covered {s : State} {line k : Nat} {x : Fin 96} (h : s.lights.fixtures[x].covers line k)
    (image : Vector Byte 320) (hk : k < 320) :
    some (writeFootprint s line image x)[k] =
      (slotValues s.lights.master s.lights.fixtures[x] s.follow.values[x])[k - (s.lights.fixtures[x].base - 1)]? := by
  obtain ⟨hpresent, hline, hbase, hend⟩ := h
  have hmine : (s.lights.fixtures[x].present && s.lights.fixtures[x].line == line) = true := by
    simp only [hpresent, hline, beq_self_eq_true, Bool.and_self]
  simp only [writeFootprint_eq, hmine, if_true]
  rw [writeRun_getElem, if_pos hbase,
    List.getElem?_eq_getElem (by rw [slotValues_length]; omega), Option.getD_some]

theorem foldl_writeFootprint_other {s : State} {line k : Nat} (hk : k < 320) {xs : List (Fin 96)}
    (h : ∀ x ∈ xs, ¬ s.lights.fixtures[x].covers line k) (image : Vector Byte 320) :
    (xs.foldl (writeFootprint s line) image)[k] = image[k] := by
  induction xs generalizing image with
  | nil => rfl
  | cons x xs ih =>
    rw [List.foldl_cons, ih fun y hy => h y (List.mem_cons_of_mem x hy),
      writeFootprint_getElem_other (h x List.mem_cons_self) image hk]

/-- R154: a slot in no footprint carries 0. -/
theorem composeImage_uncovered {s : State} {line k : Nat} (hk : k < 320)
    (h : ∀ x : Fin 96, ¬ s.lights.fixtures[x].covers line k) : (composeImage s line)[k] = 0 := by
  rw [composeImage, foldl_writeFootprint_other hk fun x _ => h x, Vector.getElem_replicate]

/-- R154: a slot in one footprint alone carries that fixture's value. -/
theorem composeImage_covered {s : State} {line k : Nat} (hk : k < 320) {x : Fin 96}
    (h : s.lights.fixtures[x].covers line k) (hothers : ∀ y : Fin 96, y ≠ x → ¬ s.lights.fixtures[y].covers line k) :
    some (composeImage s line)[k] =
      (slotValues s.lights.master s.lights.fixtures[x] s.follow.values[x])[k - (s.lights.fixtures[x].base - 1)]? := by
  obtain ⟨before, after, hsplit⟩ := List.append_of_mem (List.mem_finRange x)
  have hnodup : (before ++ x :: after).Nodup := hsplit ▸ List.nodup_finRange 96
  have hx : ∀ y ∈ after, y ≠ x := fun y hy hyx =>
    (List.nodup_cons.mp (List.nodup_append.mp hnodup).2.1).1 (hyx ▸ hy)
  rw [composeImage, hsplit, List.foldl_append, List.foldl_cons,
    foldl_writeFootprint_other hk fun y hy => hothers y (hx y hy)]
  exact writeFootprint_getElem_covered h _ hk

/-- R131: footprints that do not meet cover no slot twice. -/
theorem covers_unique {t : Vector Fixture 96} (hclear : anyConflict t = false)
    (hbase : ∀ x : Fin 96, t[x].present = true → 1 ≤ t[x].base) {line k : Nat} {x y : Fin 96}
    (hx : t[x].covers line k) (hy : t[y].covers line k) : y = x := by
  obtain ⟨hxp, hxl, hxlo, hxhi⟩ := hx
  obtain ⟨hyp, hyl, hylo, hyhi⟩ := hy
  have hx1 := hbase x hxp
  have hy1 := hbase y hyp
  have hmeet : footprintsMeet t[x] t[y] = true ∧ footprintsMeet t[y] t[x] = true := by
    simp only [footprintsMeet, Fixture.slotEnd, hxp, hyp, hxl, hyl, beq_self_eq_true, Bool.and_self, Bool.true_and,
      Bool.and_eq_true]
    exact ⟨⟨decide_eq_true (by omega), decide_eq_true (by omega)⟩, decide_eq_true (by omega), decide_eq_true (by omega)⟩
  obtain ⟨hxy, hyx⟩ := hmeet
  have hno := (anyConflict_eq_false_iff t).mp hclear
  obtain hlt | heq | hgt := lt_trichotomy x y
  · exact absurd hxy (by rw [hno x y hlt]; decide)
  · exact heq.symm
  · exact absurd hyx (by rw [hno y x hgt]; decide)

/-- R154: a fixture's footprint in the slot image of its line. -/
theorem composeImage_footprint {s : State} (hclear : anyConflict s.lights.fixtures = false)
    (hbase : ∀ x : Fin 96, s.lights.fixtures[x].present = true →
      1 ≤ s.lights.fixtures[x].base ∧ s.lights.fixtures[x].base + s.lights.fixtures[x].kind.slots ≤ 321)
    {x : Fin 96} (hp : s.lights.fixtures[x].present = true) :
    ((composeImage s s.lights.fixtures[x].line).toList.drop (s.lights.fixtures[x].base - 1)).take
        s.lights.fixtures[x].kind.slots =
      slotValues s.lights.master s.lights.fixtures[x] s.follow.values[x] := by
  obtain ⟨hlo, hhi⟩ := hbase x hp
  refine List.ext_getElem (by simp only [slotValues_length, List.length_take, List.length_drop, Vector.length_toList]; omega) fun j hj hj' => ?_
  rw [slotValues_length] at hj'
  have hcov : s.lights.fixtures[x].covers s.lights.fixtures[x].line (s.lights.fixtures[x].base - 1 + j) :=
    ⟨hp, rfl, by omega, by omega⟩
  have hval := composeImage_covered (by omega) hcov fun y hy hcy =>
    hy (covers_unique hclear (fun x hx => (hbase x hx).1) hcov hcy)
  rw [Nat.add_sub_cancel_left, List.getElem?_eq_getElem (by rw [slotValues_length]; exact hj'), Option.some_inj] at hval
  rw [← hval]
  simp

/-! ## Slot statuses (R61, R62) -/

theorem identityMatches_iff (i : Identity) (type : Option TileType) :
    identityMatches i type = true ↔
      ∃ ty, type = some ty ∧ i.code = ty.code ∧ i.width = ty.width ∧ i.height = ty.height ∧ i.depth = ty.depth := by
  cases type <;> simp [identityMatches, and_assoc]

theorem slotStatus_held {p : ChainPort} {position : Nat} {i : Identity} (hrun : p.state = .run)
    (hi : p.roster[position]? = some i) (e : TileEntry) (type : Option TileType) :
    slotStatus e type p position =
      if e.present then (if identityMatches i type then .mapped else .mismatch) else .unmapped := by
  simp only [slotStatus, if_pos hrun, hi]

theorem slotStatus_free {p : ChainPort} {position : Nat} (h : p.state ≠ .run ∨ p.roster.length ≤ position)
    (e : TileEntry) (type : Option TileType) :
    slotStatus e type p position = if e.present then .absent else .empty := by
  have hnone : (if p.state = .run then p.roster[position]? else none) = none := by
    obtain h | h := h
    · exact if_neg h
    · rw [List.getElem?_eq_none h, ite_self]
  simp only [slotStatus, hnone]

/-- R67: the latch keeps the tile type a present entry names. -/
theorem typeAt_namedTypes {look : Look} {types : Vector (Option TileType) 8} {slot : Fin 128}
    (h : look.tiles[slot].present = true) :
    typeAt (namedTypes look types) look.tiles[slot].typeId = typeAt types look.tiles[slot].typeId := by
  have hnamed : lookNames look look.tiles[slot].typeId = true := (lookNames_iff _ _).mpr ⟨slot, h, rfl⟩
  by_cases hid : look.tiles[slot].typeId < 8
  · obtain ⟨n, hn⟩ : ∃ n : Fin 8, n.val = look.tiles[slot].typeId := ⟨⟨_, hid⟩, rfl⟩
    rw [← hn] at hnamed ⊢
    rw [typeAt_getElem, typeAt_getElem, namedTypes, Fin.getElem_fin, Vector.getElem_ofFn, if_pos hnamed]
  · simp only [typeAt, Vector.getElem?_eq_none (Nat.not_lt.mp hid)]

theorem mismatchArises_of {old new : Vector SlotStatus 128} {slot : Fin 128} (hnew : new[slot] = .mismatch)
    (hold : old[slot] ≠ .mismatch) : mismatchArises old new = true := by
  simp only [mismatchArises, List.any_eq_true, Bool.and_eq_true, beq_iff_eq, bne_iff_ne]
  exact ⟨slot, List.mem_finRange slot, hnew, hold⟩

end Sys2Proof.Machine
end

section
/-! The work of an output frame start, assembled (R8–R12, R17, R50–R62, R67, R87, R141, R143, R154, R157). -/

namespace Sys2Proof.Machine

/-! ## Ramps and fades (R87, R141, R143) -/

theorem Ramp.idle {r : Ramp} (h : r.active = false) (v : Nat) : r.value v = v ∧ r.step = r := by
  simp [Ramp.value, Ramp.step, h]

theorem Ramp.reaches {r : Ramp} (h : r.active = true) (hn : r.total ≤ r.taken + 1) (v : Nat) :
    r.value v = r.target ∧ r.step.active = false := by
  simp [Ramp.value, Ramp.step, h, hn]

theorem Ramp.moves {r : Ramp} (h : r.active = true) (hn : r.taken + 1 < r.total) (v : Nat) :
    r.value v = interpolate r.start r.target (r.taken + 1) r.total ∧ r.step = { r with taken := r.taken + 1 } := by
  have htotal : r.total ≠ 0 := by omega
  simp [Ramp.value, Ramp.step, h, hn, htotal]

/-! ## The store and the picture source (R8, R10, R11, R12) -/

section
variable {s : State}

theorem pageIn_exists_of_latest {p : Fin 3} (h : s.store.pages[p].role = .latest) :
    ∃ q, pageIn .latest s.store.pages = some q :=
  Option.isSome_iff_exists.mp (pageIn_isSome_iff.mpr ⟨p, h⟩)

theorem frameStart_store_latest {q : Fin 3} (h : pageIn .latest s.store.pages = some q) :
    (frameStart s).store =
      { s.store with
        pages := moveRole .latest .read (moveRole .read .free s.store.pages), repeats := 0, everRead := true
        inputState := .live, lossActive := false } := by
  rw [frameStart_store, latchedState_store]
  exact (storeFrameStart_latest (s := beginFrame s) h).1

theorem frameStart_store_repeat (h : pageIn .latest s.store.pages = none) :
    (frameStart s).store =
      { s.store with
        repeats := min 65535 (s.store.repeats + 1), repeated := s.store.repeated.inc
        lossActive := s.store.lossActive || decide (s.store.holdLimit ≤ min 65535 (s.store.repeats + 1))
        inputState :=
          inputStateOf
            { s.store with
              lossActive := s.store.lossActive || decide (s.store.holdLimit ≤ min 65535 (s.store.repeats + 1)) } } := by
  rw [frameStart_store, latchedState_store]
  exact (storeFrameStart_repeat (s := beginFrame s) h).1

/-- R10, R67: the latch keeps the picture source the store's work fixes, and the raster of its page. -/
theorem frameStart_source :
    (frameStart s).comp.source = (storeFrameStart (beginFrame s)).2
      ∧ (frameStart s).comp.raster = latchedRaster (frameStart s).store.pages (storeFrameStart (beginFrame s)).2 := by
  rw [frameStart_comp, latchedState_comp, frameStart_store]
  exact ⟨rfl, rfl⟩

/-- R8: a page that becomes READ, one that becomes FREE, and one that stays. -/
theorem settledPage (q : Fin 3) :
    let pages := moveRole .latest .read (moveRole .read .free s.store.pages)
    (s.store.pages[q].role = .latest → pages[q] = { s.store.pages[q] with role := .read })
      ∧ (s.store.pages[q].role = .read → pages[q] = { s.store.pages[q] with role := .free })
      ∧ (s.store.pages[q].role = .free ∨ s.store.pages[q].role = .write → pages[q] = s.store.pages[q]) := by
  intro pages
  simp only [Fin.getElem_fin]
  refine ⟨fun h => ?_, fun h => ?_, ?_⟩
  · simp [pages, h]
  · simp [pages, h]
  · rintro (h | h) <;> simp [pages, h]

theorem frameStart_reads {p : Fin 3} (h : pageIn .latest s.store.pages = some p) :
    (frameStart s).comp.source = .page p ∧ (frameStart s).comp.raster = s.store.pages[p].size
      ∧ (frameStart s).store.inputState = .live ∧ (frameStart s).store.lossActive = false
      ∧ (s.store.lossActive = true → (frameStart s).events.has .inputRestored = true) := by
  obtain ⟨-, hsource, hevent⟩ := storeFrameStart_latest (s := beginFrame s) h
  obtain ⟨hsrc, hraster⟩ := frameStart_source (s := s)
  have hstore := frameStart_store_latest h
  obtain ⟨hread, -⟩ := settledPage (s := s) p
  rw [hsource] at hsrc hraster
  refine ⟨hsrc, hraster.trans ?_, congrArg FrameStore.inputState hstore, congrArg FrameStore.lossActive hstore,
    fun hloss => ?_⟩
  · rw [congrArg FrameStore.pages hstore, latchedRaster]
    exact (congrArg Page.size (hread (pageIn_eq_some h).1)).trans rfl
  · rw [frameStart_events]
    exact latchedState_has (hevent hloss)

theorem pictureSource_none {st : FrameStore} (h : st.everRead = false) (before : Bool) : pictureSource st before = .none := by
  simp only [pictureSource, h, Bool.false_eq_true, if_false]

theorem pictureSource_fill {st : FrameStore} (h : st.everRead = true) (hl : st.lossActive = true)
    (ha : st.lossAction = .fill) : pictureSource st true = .fill := by
  simp [pictureSource, h, hl, ha]

theorem pictureSource_page {st : FrameStore} {before : Bool} {p : Fin 3} (h : st.everRead = true)
    (hb : before = false ∨ st.lossAction = .hold) (hp : pageIn .read st.pages = some p) :
    pictureSource st before = .page p := by
  have hno : (st.lossActive && st.lossAction == .fill && before) = false := by
    obtain h | h := hb <;> simp [h]
  simp only [pictureSource, h, hno, hp, Bool.false_eq_true, if_true, if_false]

theorem inputStateOf_eq (st : FrameStore) :
    inputStateOf st =
      if st.everRead = false then .none
      else if st.lossActive = false then .live
      else if st.lossAction = .hold then .lossHold else .lossFill := by
  unfold inputStateOf
  cases st.everRead <;> cases st.lossActive <;> cases st.lossAction <;> rfl

/-- R8, R10, R11: a frame start that makes no page READ. -/
theorem frameStart_repeats (h : ∀ p : Fin 3, s.store.pages[p].role ≠ .latest) :
    let t := frameStart s
    t.store.lossActive = (s.store.lossActive || decide (s.store.holdLimit ≤ t.store.repeats))
      ∧ (s.store.lossActive = false → t.store.lossActive = true → t.events.has .inputLoss = true)
      ∧ t.store.inputState =
        (if s.store.everRead = false then .none
         else if t.store.lossActive = false then .live
         else if s.store.lossAction = .hold then .lossHold else .lossFill)
      ∧ (s.store.everRead = false → t.comp.source = .none)
      ∧ (s.store.everRead = true → s.store.lossActive = true → s.store.lossAction = .fill → t.comp.source = .fill)
      ∧ (s.store.everRead = true → s.store.lossActive = false ∨ s.store.lossAction = .hold →
          ∀ p : Fin 3, pageIn .read s.store.pages = some p →
            t.comp.source = .page p ∧ t.comp.raster = s.store.pages[p].size) := by
  intro t
  have hnone := pageIn_eq_none.mpr h
  obtain ⟨-, hsource, hevent⟩ := storeFrameStart_repeat (s := beginFrame s) hnone
  obtain ⟨hsrc, hraster⟩ := frameStart_source (s := s)
  have hstore := frameStart_store_repeat hnone
  have hrepeats : t.store.repeats = min 65535 (s.store.repeats + 1) := congrArg FrameStore.repeats hstore
  have hloss : t.store.lossActive = (s.store.lossActive || decide (s.store.holdLimit ≤ t.store.repeats)) := by
    rw [hrepeats]
    exact congrArg FrameStore.lossActive hstore
  rw [hsource] at hsrc hraster
  refine ⟨hloss, fun hoff hon => ?_, ?_, fun hnever => ?_, fun hever hon hfill => ?_, fun hever hlive p hp => ?_⟩
  · refine (congrArg (fun u : EventUnit => u.has .inputLoss) (frameStart_events s)).trans (latchedState_has (hevent hoff ?_))
    rw [hloss, hrepeats] at hon
    exact hon
  · rw [hloss, hrepeats]
    exact (congrArg FrameStore.inputState hstore).trans (inputStateOf_eq _)
  · rw [hsrc]
    exact pictureSource_none (by exact hnever) _
  · rw [hsrc]
    rw [show (beginFrame s).store.lossActive = true from hon]
    exact pictureSource_fill hever rfl hfill
  · have hpage := pictureSource_page
      (st := { s.store with
        lossActive := s.store.lossActive || decide (s.store.holdLimit ≤ min 65535 (s.store.repeats + 1)) })
      hever hlive hp
    refine ⟨hsrc.trans hpage, hraster.trans ?_⟩
    rw [show (frameStart s).store.pages = s.store.pages from (congrArg FrameStore.pages hstore).trans rfl]
    exact (congrArg (latchedRaster s.store.pages) hpage).trans rfl

/-! ## Slot statuses, ports and slot images -/

theorem frameStart_status (slot : Fin 128) :
    (frameStart s).comp.status[slot] =
      slotStatus s.looks.active.tiles[slot]
        (typeAt (namedTypes s.looks.active s.looks.types) s.looks.active.tiles[slot].typeId) s.ports[slotChain slot]
        (slotPosition slot).val := by
  rw [frameStart_comp, latchedState_comp]
  exact Vector.getElem_ofFn ..

/-- R62: a slot of a roster position of a chain in RUN. -/
theorem frameStart_status_held {slot : Fin 128} {i : Identity} (hrun : s.ports[slotChain slot].state = .run)
    (hi : s.ports[slotChain slot].roster[slot.val % 16]? = some i) :
    let e := s.looks.active.tiles[slot]
    let isMapped :=
      ∃ ty, typeAt s.looks.types e.typeId = some ty ∧ i.code = ty.code ∧ i.width = ty.width ∧ i.height = ty.height
        ∧ i.depth = ty.depth
    (e.present = false → (frameStart s).comp.status[slot] = .unmapped)
      ∧ (e.present = true → isMapped → (frameStart s).comp.status[slot] = .mapped)
      ∧ (e.present = true → ¬ isMapped → (frameStart s).comp.status[slot] = .mismatch) := by
  intro e isMapped
  have hstatus := (frameStart_status slot).trans (slotStatus_held hrun hi _ _)
  refine ⟨fun hp => ?_, fun hp hm => ?_, fun hp hm => ?_⟩ <;> rw [hstatus]
  · exact if_neg (by rw [hp]; decide)
  all_goals rw [if_pos hp, typeAt_namedTypes hp]
  · exact if_pos ((identityMatches_iff i _).mpr hm)
  · exact if_neg fun h => hm ((identityMatches_iff i _).mp h)

theorem frameStart_mismatch {slot : Fin 128} (hnew : (frameStart s).comp.status[slot] = .mismatch)
    (hold : s.comp.status[slot] ≠ .mismatch) : (frameStart s).events.has .tileMismatch = true := by
  rw [frameStart_comp] at hnew
  rw [frameStart_events]
  exact latchedState_mismatch (mismatchArises_of hnew hold)

theorem frameStart_sends (c : Fin 8) :
    (s.ports[c].state = .probe → (frameStart s).out.chains[c] = if s.ports[c].probes then [probeRequest] else [])
      ∧ (s.ports[c].state = .enumerate → (frameStart s).out.chains[c] = [enumerateRequest])
      ∧ (s.ports[c].state = .off ∨ s.ports[c].state = .failed → (frameStart s).out.chains[c] = [])
      ∧ (s.ports[c].state = .run →
          (frameStart s).out.chains[c] =
            chainLines (frameStart s).comp (frameStart s).store.pages c s.ports[c].roster) := by
  obtain ⟨-, -, -, hports, -⟩ := latchedState_others s
  rw [frameStart_chains, frameStart_comp, frameStart_store]
  unfold portSends
  rw [hports]
  refine ⟨fun h => by simp only [h], fun h => by simp only [h], ?_, fun h => by simp only [h]⟩
  rintro (h | h) <;> simp only [h]

theorem frameStart_port (c : Fin 8) : (frameStart s).ports[c] = s.ports[c].frameStart := by
  rw [frameStart_ports]
  exact mapAll_getElem ..

theorem frameStart_fixture (x : Fin 96) :
    (frameStart s).lights.fixtures[x] = s.lights.fixtures[x].mapAttrs Attr.step := by
  rw [frameStart_lights, latchedState_lights]
  exact mapAll_getElem ..

theorem Fixture.mapAttrs_footprint (f : Attr → Attr) (x : Fixture) :
    (x.mapAttrs f).present = x.present ∧ (x.mapAttrs f).line = x.line ∧ (x.mapAttrs f).base = x.base
      ∧ (x.mapAttrs f).kind = x.kind := ⟨rfl, rfl, rfl, rfl⟩

/-- R131: stepping the levels moves no footprint. -/
theorem frameStart_footprints (hlaw : FixtureLaw s) :
    anyConflict (frameStart s).lights.fixtures = false
      ∧ ∀ x : Fin 96, (frameStart s).lights.fixtures[x].present = true →
        1 ≤ (frameStart s).lights.fixtures[x].base
          ∧ (frameStart s).lights.fixtures[x].base + (frameStart s).lights.fixtures[x].kind.slots ≤ 321 := by
  obtain ⟨hclear, hfixtures⟩ := hlaw
  refine ⟨?_, fun x hp => ?_⟩
  · rw [anyConflict_eq_false_iff] at hclear ⊢
    intro i j hij
    rw [frameStart_fixture, frameStart_fixture]
    exact hclear i j hij
  · rw [frameStart_fixture] at hp ⊢
    obtain ⟨-, hlo, hhi, -⟩ := (hfixtures x).1 hp
    exact ⟨hlo, hhi⟩

/-- R154: the footprint of a fixture in the slot image of its line. -/
theorem frameStart_footprint (hlaw : FixtureLaw s) {l : Fin 4} {x : Fin 96} (hp : s.lights.fixtures[x].present = true)
    (hl : s.lights.fixtures[x].line = l.val) :
    let f := (frameStart s).lights.fixtures[x]
    ((frameStart s).follow.images[l].toList.drop (f.base - 1)).take f.kind.slots =
      slotValues (frameStart s).lights.master f (frameStart s).follow.values[x] := by
  intro f
  obtain ⟨hclear, hbase⟩ := frameStart_footprints hlaw
  have hp' : (frameStart s).lights.fixtures[x].present = true := by rw [frameStart_fixture]; exact hp
  have hl' : (frameStart s).lights.fixtures[x].line = l.val := by rw [frameStart_fixture]; exact hl
  rw [frameStart_images, ← hl']
  exact composeImage_footprint hclear hbase hp'

/-- R154: a slot in no footprint. -/
theorem frameStart_slot_zero (hlaw : FixtureLaw s) {l : Fin 4} {k : Fin 320}
    (h : ∀ x : Fin 96,
      let f := s.lights.fixtures[x]
      f.present = true → f.line = l.val → k.val + 1 < f.base ∨ f.base + f.kind.slots ≤ k.val + 1) :
    (frameStart s).follow.images[l][k] = 0 := by
  rw [frameStart_images]
  refine composeImage_uncovered k.isLt fun x hcov => ?_
  rw [frameStart_fixture] at hcov
  obtain ⟨hp, hl, hlo, hhi⟩ := hcov
  obtain ⟨-, hbase, -⟩ := (hlaw.2 x).1 hp
  have hno := h x hp hl
  obtain ⟨-, -, hb, hk⟩ := Fixture.mapAttrs_footprint Attr.step s.lights.fixtures[x]
  rw [hb] at hlo hhi
  rw [hk] at hhi
  omega

theorem frameStart_levels_enabled {l : Fin 4} (he : s.follow.lines[l].enable = true)
    (hs : s.follow.lines[l].slots ≤ 320) :
    (frameStart s).out.lights[l] =
      some (withCheck
        ([0xD1, BitVec.ofNat 8 l.val] ++ be2 s.follow.lines[l].slots ++ [(frameStart s).timing.frame.setWidth 8]
          ++ (frameStart s).follow.images[l].toList.take s.follow.lines[l].slots)) := by
  have hlines : (frameStart s).follow.lines = s.follow.lines := by rw [frameStart_follow]
  rw [frameStart_levels, linePacketOf, hlines, if_pos he, levelPacket]
  have hlen : ((frameStart s).follow.images[l].toList.take s.follow.lines[l].slots).length = s.follow.lines[l].slots := by
    rw [List.length_take, Vector.length_toList]
    omega
  rw [hlen]

theorem frameStart_levels_disabled {l : Fin 4} (he : s.follow.lines[l].enable = false) :
    (frameStart s).out.lights[l] = none := by
  have hlines : (frameStart s).follow.lines = s.follow.lines := by rw [frameStart_follow]
  rw [frameStart_levels, linePacketOf, hlines]
  exact if_neg (by rw [he]; decide)

end

/-! ## The clauses of the obligation -/

section
variable {s : State}

/-- R8: a frame start with a LATEST page. -/
theorem frameStart_latestPage {p : Fin 3} (hp : s.store.pages[p].role = .latest) :
    let t := frameStart s
    t.store.pages[p] = { s.store.pages[p] with role := .read }
      ∧ (∀ q : Fin 3,
          (s.store.pages[q].role = .read → t.store.pages[q] = { s.store.pages[q] with role := .free })
            ∧ (s.store.pages[q].role = .free ∨ s.store.pages[q].role = .write →
                t.store.pages[q] = s.store.pages[q]))
      ∧ t.store =
        { s.store with
          pages := t.store.pages, repeats := 0, everRead := true, inputState := .live, lossActive := false } := by
  intro t
  obtain ⟨q, hq⟩ := pageIn_exists_of_latest hp
  have hstore := frameStart_store_latest hq
  have hpages : t.store.pages = moveRole .latest .read (moveRole .read .free s.store.pages) :=
    (congrArg FrameStore.pages hstore).trans rfl
  rw [hpages]
  refine ⟨?_, fun q => ⟨fun hr => ?_, fun hr => ?_⟩, hstore⟩
  · obtain ⟨hread, -⟩ := settledPage (s := s) p
    exact hread hp
  · obtain ⟨-, hfree, -⟩ := settledPage (s := s) q
    exact hfree hr
  · obtain ⟨-, -, hsame⟩ := settledPage (s := s) q
    exact hsame hr

/-- R8, R11: a frame start with no LATEST page counts a repeat and leaves the pages and the settings. -/
theorem frameStart_noLatest (h : ∀ p : Fin 3, s.store.pages[p].role ≠ .latest) :
    (frameStart s).store =
      { s.store with
        repeats := min 65535 (s.store.repeats + 1), repeated := s.store.repeated.inc
        inputState := (frameStart s).store.inputState, lossActive := (frameStart s).store.lossActive } := by
  rw [frameStart_store_repeat (pageIn_eq_none.mpr h)]

theorem frameStart_master :
    (frameStart s).power.master = s.power.ramp.value s.power.master ∧ (frameStart s).power.ramp = s.power.ramp.step := by
  rw [frameStart_power]
  exact ⟨rfl, rfl⟩

theorem frameStart_lightMaster :
    (frameStart s).lights.master = s.lights.ramp.value s.lights.master
      ∧ (frameStart s).lights.ramp = s.lights.ramp.step := by
  rw [frameStart_lights, latchedState_lights]
  exact ⟨rfl, rfl⟩

theorem frameStart_fill : (frameStart s).store.fill = s.store.fill := by
  cases h : pageIn .latest s.store.pages with
  | some q => rw [frameStart_store_latest h]
  | none => rw [frameStart_store_repeat h]

/-- R67, Table 4-1: the latch taken. -/
theorem frameStart_latch :
    let t := frameStart s
    t.comp.look = s.looks.active ∧ t.comp.master = t.power.master ∧ t.comp.fill = s.store.fill
      ∧ (∀ z : Fin 16, t.comp.zoneScale[z] = s.thermal.zones[z].scale
          ∧ t.comp.composite[z] = (t.power.master * s.thermal.zones[z].scale + 2048) / 4096)
      ∧ ∀ c : Fin 8, t.comp.limiter[c] = s.power.limiters[c].scale := by
  obtain ⟨hmaster, -⟩ := frameStart_master (s := s)
  have hfill := frameStart_fill (s := s)
  rw [frameStart_store] at hfill
  simp only [hmaster, frameStart_comp, latchedState_comp, hfill, Fin.getElem_fin, mapAll_getElem]
  exact ⟨trivial, trivial, trivial, fun z => ⟨trivial, rfl⟩, fun c => trivial⟩

/-- R90: a chain in RUN is measured. -/
theorem frameStart_measured {c : Fin 8} (h : s.ports[c].state = .run) :
    (frameStart s).power.limiters[c].measured = true := by
  rw [frameStart_power, Fin.getElem_fin, Vector.getElem_ofFn, if_pos h]

/-- R50, R51, R60: what a port sends, and what becomes of its record. -/
theorem frameStart_portWork (c : Fin 8) :
    let t := frameStart s
    let p := s.ports[c]
    (p.state = .probe → p.newlyEnabled = false →
        t.out.chains[c] = [[0xC1, 0]] ∧ t.ports[c] = { p with windowOpen := true })
      ∧ (p.state = .probe → p.newlyEnabled = true →
          t.out.chains[c] = [] ∧ t.ports[c] = { p with newlyEnabled := false })
      ∧ (p.state = .enumerate →
          t.out.chains[c] = [[0xC2]]
            ∧ t.ports[c] = { p with windowOpen := true, collection := [], overlong := false })
      ∧ (p.state = .off ∨ p.state = .failed → t.out.chains[c] = [])
      ∧ (p.state = .off ∨ p.state = .failed ∨ p.state = .run → t.ports[c] = p) := by
  intro t p
  obtain ⟨hprobe, henum, hsilent, -⟩ := frameStart_sends (s := s) c
  have hport : t.ports[c] = p.frameStart := frameStart_port c
  refine ⟨fun h hn => ?_, fun h hn => ?_, fun h => ⟨henum h, ?_⟩, hsilent, ?_⟩
  · obtain ⟨-, hp, hstart⟩ | ⟨hno, -, -⟩ := frameStart_probe h
    · exact ⟨(hprobe h).trans (if_pos hp), hport.trans hstart⟩
    · exact absurd hno (by rw [hn]; decide)
  · obtain ⟨hno, -, -⟩ | ⟨-, hp, hstart⟩ := frameStart_probe h
    · exact absurd hno (by rw [hn]; decide)
    · exact ⟨(hprobe h).trans (if_neg (by rw [show s.ports[c].probes = false from hp]; decide)), hport.trans hstart⟩
  · rw [hport, ChainPort.frameStart, h]
  · rintro (h | h | h) <;> rw [hport, ChainPort.frameStart, h]

end

/-! ## The obligation -/

/-- R154, Table 9-2: the slot values of a present fixture, by its kind. -/
theorem slotValues_present {f : Fixture} (hp : f.present = true) (lm : Nat) (v : Rgb) :
    let i := (f.i.current * lm + 2048) / 4096
    let r := if f.followOn then v.r else f.r.current
    let g := if f.followOn then v.g else f.g.current
    let b := if f.followOn then v.b else f.b.current
    let fold (n : Nat) : Nat := (n * i + 32767) / 65535
    let eight (n : Nat) : Byte := BitVec.ofNat 8 ((n * 255 + 32767) / 65535)
    let coarse (n : Nat) : Byte := BitVec.ofNat 8 (n / 256)
    let fine (n : Nat) : Byte := BitVec.ofNat 8 n
    slotValues lm f v =
      match f.kind with
      | .dim8 => [eight i]
      | .dim16 => [coarse i, fine i]
      | .rgb8 => [eight (fold r), eight (fold g), eight (fold b)]
      | .rgbi8 => [eight r, eight g, eight b, eight i]
      | .rgb16 => [coarse (fold r), fine (fold r), coarse (fold g), fine (fold g), coarse (fold b), fine (fold b)] := by
  have hcolour : colourLevels f v = if f.followOn then v else f.colour := by rw [colourLevels, hp, Bool.true_and]
  unfold slotValues
  rw [hcolour]
  cases f.followOn <;> cases f.kind <;> rfl

/-- Settles O40. -/
theorem frameStartWork : Obligations.FrameStartWork := by
  intro s ramped stepped isMapped
  have hstepped : ∀ a, stepped a = a.step := fun _ => rfl
  have hramped : ∀ (v : Nat) (r : Ramp), ramped v r (r.value v) r.step := fun v r =>
    ⟨fun h => r.idle h v, fun h hn => r.reaches h hn v, fun h hn => r.moves h hn v⟩
  refine ⟨fun h => ?_, fun href hact => ?_, ?_⟩
  · refine congrArg Host.Outcome.next (if_neg ?_)
    simp only [freeRunReady, Bool.and_eq_true, bne_iff_ne]
    tauto
  · refine congrArg Host.Outcome.next (if_pos ?_)
    simp only [freeRunReady, Bool.and_eq_true, bne_iff_ne]
    exact ⟨href, hact⟩
  · intro t
    obtain ⟨hpins, hlink, hlooks, hthermal, hcues, hqueue⟩ := frameStart_others s
    obtain ⟨hmaster, hramp⟩ := frameStart_master (s := s)
    obtain ⟨hlightMaster, hlightRamp⟩ := frameStart_lightMaster (s := s)
    refine ⟨frameStart_timing s, fun p hp => frameStart_latestPage hp, fun hno => frameStart_noLatest hno,
      fun p hp => frameStart_reads hp, fun hno => frameStart_repeats hno, ?_, ?_, ?_, frameStart_latch,
      fun c hrun => frameStart_measured hrun, fun c => frameStart_portWork c, ?_,
      fun hlaw l => ⟨fun x hp hl => ?_, fun k hk => frameStart_slot_zero hlaw hk⟩,
      fun l hl => frameStart_levels_disabled hl, fun l hl hs => frameStart_levels_enabled hl hs,
      hlooks, hthermal, hcues, hlink, hpins, hqueue⟩
    · rw [hmaster, hramp]
      exact hramped _ _
    · rw [hlightMaster, hlightRamp]
      exact hramped _ _
    · intro slot e port
      exact ⟨fun i hrun hi => frameStart_status_held hrun hi,
        fun hfree => (frameStart_status slot).trans (slotStatus_free hfree _ _), frameStart_mismatch⟩
    · intro x f
      simp only [hstepped]
      exact frameStart_fixture x
    · intro f v i r g b fold eight coarse fine
      have hpresent : f.present = true := by
        simp only [f, t, frameStart_fixture]
        exact hp
      have himage : (t.follow.images[l].toList.drop (f.base - 1)).take f.kind.slots = slotValues t.lights.master f v :=
        frameStart_footprint hlaw hp hl
      have hvalues := slotValues_present hpresent t.lights.master v
      clear_value f v t
      rw [himage]
      exact hvalues

end Sys2Proof.Machine
end

section
/-! The stages from source picture code to drive, the law of drive and demand, and the lines a chain sends (R53,
R70–R81). -/

namespace Sys2Proof.Machine

/-! ## The arithmetic of the stages (R70–R78) -/

theorem scaleBy_le {v scale : Nat} (h : scale ≤ 4096) : scaleBy v scale ≤ v := by
  have hmul : v * scale ≤ v * 4096 := Nat.mul_le_mul_left v h
  unfold scaleBy
  omega

theorem scaleBy_unity (v : Nat) : scaleBy v 4096 = v := by
  unfold scaleBy
  omega

theorem scaleBy_zero (v : Nat) : scaleBy v 0 = 0 := by
  unfold scaleBy
  omega

theorem gainLevel_le (level gain : Nat) : gainLevel level gain ≤ 65535 := Nat.min_le_left ..

theorem quantise_le {n o : Nat} (h : o ≤ 65535) : quantise n o ≤ 2 ^ n - 1 := by
  have hmul : o * (2 ^ n - 1) ≤ 65535 * (2 ^ n - 1) := Nat.mul_le_mul_right _ h
  unfold quantise
  omega

/-- R72: the level of a code on a curve, with the code's place within its segment as a remainder. -/
theorem curveLevel_eq (curve : Vector Nat 33) (x : Nat) :
    curveLevel curve x =
      ((pointAt curve (x / 128) : Int)
        + (((pointAt curve (x / 128 + 1) : Int) - pointAt curve (x / 128)) * (x % 128 : Nat) + 64) / 128).toNat := by
  have hrem : x - 128 * (x / 128) = x % 128 := by omega
  simp only [curveLevel, hrem]

theorem pictureCode_page {l : FrameLatch} {pages : Vector Page 3} {p : Fin 3} {w h : Nat} (hs : l.source = .page p)
    (hr : l.raster = some (w, h)) (at' : Int × Int) :
    pictureCode l pages at' =
      if 0 ≤ at'.1 ∧ at'.1 ≤ w - 1 ∧ 0 ≤ at'.2 ∧ at'.2 ≤ h - 1 then pages[p].pixel at'.1.toNat at'.2.toNat
      else l.look.border := by
  simp only [pictureCode, hs, hr]
  refine if_congr ?_ rfl rfl
  omega

theorem pictureCode_fill {l : FrameLatch} {pages : Vector Page 3} (hs : l.source = .fill ∨ l.source = .none)
    (at' : Int × Int) : pictureCode l pages at' = l.fill := by
  obtain hs | hs := hs <;> simp only [pictureCode, hs]

/-- R70, Table 4-4: the source pixel, column and line apart. -/
theorem sourcePixel_eq (e : TileEntry) (w h u v : Nat) :
    sourcePixel e w h u v =
      (match e.orientation with
       | .normal | .mirrorV => e.x + u
       | .rot180 | .mirrorH => e.x + w - 1 - u,
       match e.orientation with
       | .normal | .mirrorH => e.y + v
       | .rot180 | .mirrorV => e.y + h - 1 - v) := by
  unfold sourcePixel
  cases e.orientation <;> rfl

theorem gainedLevel_eq {look : Look} {e : TileEntry} {curve : Fin 8} {profile : Fin 64} (hc : e.curve = curve.val)
    (hp : e.profile = profile.val) (code : Rgb) :
    gainedLevel look e code =
      Rgb.zip gainLevel (code.map (curveLevel look.curves[curve])) look.profiles[profile] := by
  simp only [gainedLevel, hc, hp, Vector.getElem?_eq_getElem curve.isLt, Vector.getElem?_eq_getElem profile.isLt,
    Option.getD_some, Fin.getElem_fin]

theorem zoneComposite_eq {l : FrameLatch} {e : TileEntry} {zone : Fin 16} (hz : e.zone = zone.val) :
    zoneComposite l e = l.composite[zone] := by
  simp only [zoneComposite, hz, Vector.getElem?_eq_getElem zone.isLt, Option.getD_some, Fin.getElem_fin]

/-! ## The law of drive and demand (R75, R77, R78) -/

section
variable {l : FrameLatch} {pages : Vector Page 3} {c : Fin 8} {e : TileEntry} {t : TileType} {u v : Nat}

theorem pixelDemand_le (hz : zoneComposite l e ≤ 4096) :
    (pixelDemand l pages e t u v).r ≤ 65535 ∧ (pixelDemand l pages e t u v).g ≤ 65535
      ∧ (pixelDemand l pages e t u v).b ≤ 65535 :=
  ⟨(scaleBy_le hz).trans (gainLevel_le ..), (scaleBy_le hz).trans (gainLevel_le ..),
    (scaleBy_le hz).trans (gainLevel_le ..)⟩

theorem pixelOutput_le (hl : l.limiter[c] ≤ 4096) :
    (pixelOutput l pages c e t u v).r ≤ (pixelDemand l pages e t u v).r
      ∧ (pixelOutput l pages c e t u v).g ≤ (pixelDemand l pages e t u v).g
      ∧ (pixelOutput l pages c e t u v).b ≤ (pixelDemand l pages e t u v).b :=
  ⟨scaleBy_le hl, scaleBy_le hl, scaleBy_le hl⟩

theorem pixelOutput_unity (hl : l.limiter[c] = 4096) : pixelOutput l pages c e t u v = pixelDemand l pages e t u v := by
  simp only [pixelOutput, hl, Rgb.map, scaleBy_unity]

theorem pixelOutput_black (hl : l.limiter[c] = 0) : pixelOutput l pages c e t u v = Rgb.all 0 := by
  simp only [pixelOutput, hl, Rgb.map, scaleBy_zero, Rgb.all]

theorem pixelDrive_le (hz : zoneComposite l e ≤ 4096) (hl : l.limiter[c] ≤ 4096) :
    (pixelDrive l pages c e t u v).r ≤ 2 ^ t.depth - 1 ∧ (pixelDrive l pages c e t u v).g ≤ 2 ^ t.depth - 1
      ∧ (pixelDrive l pages c e t u v).b ≤ 2 ^ t.depth - 1 := by
  obtain ⟨hdr, hdg, hdb⟩ := pixelDemand_le (pages := pages) (t := t) (u := u) (v := v) hz
  obtain ⟨hor, hog, hob⟩ := pixelOutput_le (pages := pages) (e := e) (t := t) (u := u) (v := v) hl
  exact ⟨quantise_le (hor.trans hdr), quantise_le (hog.trans hdg), quantise_le (hob.trans hdb)⟩

end

/-! ## The lines of a roster position (R53, R76, R79, R81) -/

section
variable {l : FrameLatch} {pages : Vector Page 3} {c : Fin 8} {roster : List Identity} {i : Fin 16} {id : Identity}

theorem positionLines_mapped {t : TileType} (hid : roster[i.val]? = some id) (hm : l.status[slotOf c i] = .mapped)
    (ht : typeAt l.types l.look.tiles[slotOf c i].typeId = some t) :
    positionLines l pages c roster i = pictureLines l pages c i.val l.look.tiles[slotOf c i] t := by
  simp only [positionLines, hid, hm, ht]

theorem positionDemands_mapped {t : TileType} (hid : roster[i.val]? = some id) (hm : l.status[slotOf c i] = .mapped)
    (ht : typeAt l.types l.look.tiles[slotOf c i].typeId = some t) :
    positionDemands l pages c roster i = pictureDemands l pages l.look.tiles[slotOf c i] t := by
  simp only [positionDemands, hid, hm, ht]

theorem positionLines_dark (hid : roster[i.val]? = some id) (hm : l.status[slotOf c i] ≠ .mapped) :
    positionLines l pages c roster i = zeroLines i.val id := by
  simp only [positionLines, hid]
  split
  · next hm' _ => exact absurd hm' hm
  · next hid' _ => exact congrArg _ (Option.some.inj hid').symm
  · next h => simp at h

theorem positionDemands_dark (hid : roster[i.val]? = some id) (hm : l.status[slotOf c i] ≠ .mapped) :
    positionDemands l pages c roster i = List.replicate id.height (List.replicate id.width 0) := by
  simp only [positionDemands, hid]
  split
  · next hm' _ => exact absurd hm' hm
  · next hid' _ => obtain rfl := Option.some.inj hid'; rfl
  · next h => simp at h

theorem positionLines_beyond (hid : roster[i.val]? = none) : positionLines l pages c roster i = [] := by
  simp only [positionLines, hid]

theorem positionDemands_beyond (hid : roster[i.val]? = none) : positionDemands l pages c roster i = [] := by
  simp only [positionDemands, hid]

end

theorem slotChain_slotOf (c : Fin 8) (i : Fin 16) : slotChain (slotOf c i) = c := Fin.ext (by simp only [slotChain, slotOf]; omega)

theorem slotPosition_slotOf (c : Fin 8) (i : Fin 16) : slotPosition (slotOf c i) = i :=
  Fin.ext (by simp only [slotPosition, slotOf]; omega)

/-! ## What a chain sends at an output frame start -/

section
variable {s : State} {c : Fin 8} {i : Fin 16}

/-- R62, R67: a MAPPED slot's position holds a record of the type its entry names, which the latch has too. -/
theorem frameStart_mapped {id : Identity} (hrun : s.ports[c].state = .run)
    (hid : s.ports[c].roster[i.val]? = some id)
    (hm : (frameStart s).comp.status[slotOf c i] = .mapped) :
    ∃ ty, typeAt s.looks.types s.looks.active.tiles[slotOf c i].typeId = some ty
      ∧ typeAt (frameStart s).comp.types (frameStart s).comp.look.tiles[slotOf c i].typeId = some ty
      ∧ id.width = ty.width ∧ id.height = ty.height ∧ id.depth = ty.depth := by
  have hlook : (frameStart s).comp.look = s.looks.active := by rw [frameStart_comp, latchedState_comp]
  have htypes : (frameStart s).comp.types = namedTypes s.looks.active s.looks.types := by
    rw [frameStart_comp, latchedState_comp]
  have hport : s.ports[slotChain (slotOf c i)] = s.ports[c] :=
    congrArg (fun d : Fin 8 => s.ports[d]) (slotChain_slotOf c i)
  have hrun' : s.ports[slotChain (slotOf c i)].state = .run := by rw [hport]; exact hrun
  have hid' : s.ports[slotChain (slotOf c i)].roster[(slotPosition (slotOf c i)).val]? = some id := by
    rw [hport, slotPosition_slotOf]; exact hid
  rw [frameStart_status, slotStatus_held hrun' hid'] at hm
  have hpresent : s.looks.active.tiles[slotOf c i].present = true := by
    by_contra hno
    rw [if_neg hno] at hm
    exact absurd hm (by decide)
  rw [if_pos hpresent] at hm
  have hmatch : identityMatches id (typeAt (namedTypes s.looks.active s.looks.types)
      s.looks.active.tiles[slotOf c i].typeId) = true := by
    by_contra hno
    rw [if_neg hno] at hm
    exact absurd hm (by decide)
  obtain ⟨ty, hty, -, hw, hh, hd⟩ := (identityMatches_iff id _).mp hmatch
  refine ⟨ty, ?_, ?_, hw, hh, hd⟩
  · rw [← typeAt_namedTypes hpresent]; exact hty
  · rw [hlook, htypes]; exact hty

theorem frameStart_acc (hrun : s.ports[c].state = .run) :
    (frameStart s).power.limiters[c].acc =
      s.power.limiters[c].acc
        + ((List.finRange 16).map fun i =>
            (positionDemands (frameStart s).comp (frameStart s).store.pages c s.ports[c].roster i).flatten.sum).sum := by
  rw [frameStart_power, Fin.getElem_fin, Vector.getElem_ofFn, if_pos hrun, frameStart_comp, frameStart_store,
    ← chainDemand_eq]

theorem frameStart_acc_idle (hrun : s.ports[c].state ≠ .run) :
    (frameStart s).power.limiters[c].acc = s.power.limiters[c].acc := by
  rw [frameStart_power, Fin.getElem_fin, Vector.getElem_ofFn, if_neg hrun]

end

/-- Settles O51. -/
theorem driveNeverExceedsDemand : Obligations.DriveNeverExceedsDemand := by
  refine ⟨?_, ?_, ?_⟩
  · intro s t
    refine ⟨fun href hact => ?_, ?_⟩
    · refine congrArg Host.Outcome.next (if_pos ?_)
      simp only [freeRunReady, Bool.and_eq_true, bne_iff_ne]
      exact ⟨href, hact⟩
    intro c mappedType pixel demand
    have hlook : t.comp.look = s.looks.active := by
      obtain ⟨hlook, -⟩ := frameStart_latch (s := s)
      exact hlook
    refine ⟨fun hrun => ?_, fun hrun => frameStart_acc_idle hrun⟩
    have hmapped := fun i id => frameStart_mapped (i := i) (id := id) hrun
    obtain ⟨-, -, -, hsends⟩ := frameStart_sends (s := s) c
    have hsent := hsends hrun
    have hacc := frameStart_acc hrun
    rw [show frameStart s = t from rfl] at hmapped hsent hacc
    clear_value t
    rw [hsent, hacc]
    refine ⟨List.flatMap_congr fun i _ => ?_, congrArg (fun n => _ + List.sum n) (List.map_congr_left fun i _ => ?_)⟩
    · cases hid : s.ports[c].roster[i.val]? with
      | none => exact positionLines_beyond hid
      | some id =>
        by_cases hm : t.comp.status[slotOf c i] = .mapped
        · obtain ⟨ty, hty, hlatched, hw, hh, hd⟩ := hmapped i id hid hm
          rw [positionLines_mapped hid hm hlatched, pictureLines]
          simp only [pixel, mappedType, if_pos hm, hty, hw, hh, hd, hlook]
        · rw [positionLines_dark hid hm, zeroLines]
          simp only [pixel, mappedType, if_neg hm, List.map_const', List.length_range]
          rfl
    · cases hid : s.ports[c].roster[i.val]? with
      | none =>
        rw [positionDemands_beyond hid]
        rfl
      | some id =>
        by_cases hm : t.comp.status[slotOf c i] = .mapped
        · obtain ⟨ty, hty, hlatched, hw, hh, hd⟩ := hmapped i id hid hm
          rw [positionDemands_mapped hid hm hlatched, pictureDemands_sum]
          simp only [demand, mappedType, if_pos hm, hty, hw, hh, hlook, pixelCurrent]
        · rw [positionDemands_dark hid hm]
          simp only [demand, mappedType, if_neg hm]
          simp
  · intro l pages c e ty u v hl hz d o q
    exact ⟨pixelDemand_le hz, pixelOutput_le hl, pixelOutput_unity, pixelOutput_black, pixelDrive_le hz hl⟩
  · intro l pages c e ty u v code curve profile zone hcurve hprofile hzone _ _ _ xs ys sampled point level demand output
      drive gains each hsampled
    have hsource : sourcePixel e ty.width ty.height u v = (xs, ys) := sourcePixel_eq e ty.width ty.height u v
    have hcode : pictureCode l pages (xs, ys) = code := by
      simp only [sampled] at hsampled
      cases hs : l.source with
      | page p =>
        rw [hs] at hsampled
        obtain ⟨w, h, hr, hc⟩ := hsampled
        rw [hc, pictureCode_page hs hr]
      | fill => rw [hs] at hsampled; rw [hsampled, pictureCode_fill (.inl hs)]
      | none => rw [hs] at hsampled; rw [hsampled, pictureCode_fill (.inr hs)]
    have hlevel : ∀ x, curveLevel l.look.curves[curve] x = level x := curveLevel_eq _
    have hdemand : pixelDemand l pages e ty u v = each demand := by
      rw [pixelDemand, hsource, hcode, gainedLevel_eq hcurve hprofile, zoneComposite_eq hzone]
      simp only [Rgb.map, Rgb.zip, hlevel]
      rfl
    have houtput : pixelOutput l pages c e ty u v = each output := by
      rw [pixelOutput, hdemand]
      rfl
    refine ⟨hdemand, houtput, ?_⟩
    rw [pixelDrive, houtput]
    rfl

end Sys2Proof.Machine
end

section
/-! What an output frame end makes of a part of the state: the event unit's count and the raisings touch none of the
blocks, so that each unit's steps act on its part alone (R17, R175). -/

namespace Sys2Proof.Machine

/-! ## Parts of the state under the steps of a frame end -/

section
variable {α β : Type} {π : State → α}

theorem EndWork.act_project (hc : ∀ s, π (countFrame s) = π s) {f : State → State} {g : α → α}
    (hf : ∀ s, π (f s) = g (π s)) (w : EndWork) : π (w.act f).state = g (π w.state) := by
  obtain ⟨e, -⟩ | ⟨e, -⟩ := w.act_cases f <;> rw [e, hf]
  rw [hc]

theorem EndWork.foldl_project {step : EndWork → β → EndWork} {g : α → β → α}
    (h : ∀ w x, π (step w x).state = g (π w.state) x) (xs : List β) (w : EndWork) :
    π (xs.foldl step w).state = xs.foldl g (π w.state) := by
  induction xs generalizing w with
  | nil => rfl
  | cons x xs ih => rw [List.foldl_cons, ih, h, List.foldl_cons]

theorem EndWork.actAll_cons (w : EndWork) (f : State → State) (fs : List (State → State)) :
    w.actAll (f :: fs) = (w.act f).actAll fs := rfl

theorem EndWork.actAll_nil (w : EndWork) : w.actAll [] = w := rfl

theorem EndWork.actAll_append (w : EndWork) (fs gs : List (State → State)) :
    w.actAll (fs ++ gs) = (w.actAll fs).actAll gs := List.foldl_append ..

theorem EndWork.actAll_map (w : EndWork) (F : β → State → State) (xs : List β) :
    w.actAll (xs.map F) = xs.foldl (fun w x => w.act (F x)) w := List.foldl_map ..

theorem EndWork.actAll_flatMap (w : EndWork) (F : β → List (State → State)) (xs : List β) :
    w.actAll (xs.flatMap F) = xs.foldl (fun w x => w.actAll (F x)) w := by
  induction xs generalizing w with
  | nil => rfl
  | cons x xs ih => rw [List.flatMap_cons, EndWork.actAll_append, ih, List.foldl_cons]

theorem EndWork.finish_project (hc : ∀ s, π (countFrame s) = π s) (w : EndWork) : π w.finish = π w.state := by
  obtain ⟨e, -⟩ | ⟨e, -⟩ := w.finish_cases <;> rw [e]
  exact hc _

end

/-! ## Units that act on parts of their own -/

section
variable {α : Type} {n : Nat} {step : EndWork → Fin n → EndWork} {π : Fin n → State → α} {g : Fin n → α → α}

theorem foldl_other (hother : ∀ w c d, c ≠ d → π d (step w c).state = π d w.state) {cs : List (Fin n)} {d : Fin n}
    (hd : d ∉ cs) (w : EndWork) : π d (cs.foldl step w).state = π d w.state := by
  induction cs generalizing w with
  | nil => rfl
  | cons c cs ih =>
    rw [List.foldl_cons, ih fun h => hd (List.mem_cons_of_mem c h)]
    exact hother w c d fun h => hd (h ▸ List.mem_cons_self)

theorem finRange_split (c : Fin n) :
    ∃ before after, List.finRange n = before ++ c :: after ∧ c ∉ before ∧ c ∉ after := by
  obtain ⟨before, after, hsplit⟩ := List.append_of_mem (List.mem_finRange c)
  have hnodup : (before ++ c :: after).Nodup := hsplit ▸ List.nodup_finRange n
  obtain ⟨-, hcons, hdisjoint⟩ := List.nodup_append.mp hnodup
  exact ⟨before, after, hsplit, fun h => hdisjoint c h c List.mem_cons_self rfl, (List.nodup_cons.mp hcons).1⟩

/-- Each unit's steps work on its own part, and on no other's. -/
theorem foldl_units (hself : ∀ w c, π c (step w c).state = g c (π c w.state))
    (hother : ∀ w c d, c ≠ d → π d (step w c).state = π d w.state) (c : Fin n) (w : EndWork) :
    π c ((List.finRange n).foldl step w).state = g c (π c w.state) := by
  obtain ⟨before, after, hsplit, hbefore, hafter⟩ := finRange_split c
  rw [hsplit, List.foldl_append, List.foldl_cons, foldl_other hother hafter, hself, foldl_other hother hbefore]

/-- What a unit's step brings about, by its part before it, and every later step keeps. -/
theorem foldl_units_reach {P : State → Prop} (hother : ∀ w c d, c ≠ d → π d (step w c).state = π d w.state)
    (hkeep : ∀ w c, P w.state → P (step w c).state) {c : Fin n} {cond : α → Prop}
    (hreach : ∀ w, cond (π c w.state) → P (step w c).state) {w : EndWork} (h : cond (π c w.state)) :
    P ((List.finRange n).foldl step w).state := by
  obtain ⟨before, after, hsplit, hbefore, -⟩ := finRange_split c
  rw [hsplit, List.foldl_append, List.foldl_cons]
  refine EndWork.foldl_keeps hkeep (hreach _ ?_)
  rw [foldl_other hother hbefore]
  exact h

end

/-! ## A chain port with its limiter (R50–R57, R91–R93) -/

/-- A chain port and the limiter of its chain. -/
def unit (c : Fin 8) (s : State) : ChainPort × Limiter := (s.ports[c], s.power.limiters[c])

/-- R93: a limiter of a chain that enters or leaves RUN. -/
def Limiter.drop (l : Limiter) : Limiter := { l with scale := 0, measured := false }

/-- R55: a position marked SILENT, where that is due. -/
def ChainPort.silence (p : ChainPort) (i : Fin 16) : ChainPort :=
  if silentDue p i then
    { p with reports := modifyAt p.reports i fun q => { q with silent := true }, silentEvents := p.silentEvents.inc }
  else p

/-- R55: a port in RUN after freshness and silence. -/
def ChainPort.judged (p : ChainPort) : ChainPort := (List.finRange 16).foldl ChainPort.silence p.evaluate

/-- R52: the end of an enumeration. -/
def enumerationEnd (x : ChainPort × Limiter) : ChainPort × Limiter :=
  if x.1.collection.isEmpty then (x.1.enumFail, x.2) else (x.1.install, x.2.drop)

/-- R56: the failure of a chain, where it is due. -/
def failureEnd (x : ChainPort × Limiter) : ChainPort × Limiter :=
  if failureDue x.1 then (x.1.fail, x.2.drop) else x

/-- R57: a port in FAILED. -/
def holdoffEnd (x : ChainPort × Limiter) : ChainPort × Limiter :=
  (if recoveryDue x.1.countHoldoff then
    { x.1.countHoldoff with state := .probe, newlyEnabled := false, windowOpen := false }
   else x.1.countHoldoff, x.2)

/-- R50–R57: a chain port and its limiter after the port's evaluation at an output frame end. -/
def portEnd (x : ChainPort × Limiter) : ChainPort × Limiter :=
  match x.1.state with
  | .off => x
  | .probe => (x.1.closeProbe, x.2)
  | .enumerate => if x.1.windowOpen then enumerationEnd x else x
  | .run => failureEnd (x.1.judged, x.2)
  | .failed => holdoffEnd x

/-- R91, R92: a limiter after its evaluation at an output frame end. -/
def limiterEnd (x : ChainPort × Limiter) : ChainPort × Limiter :=
  (x.1,
    if x.1.state == .run && x.2.measured then
      { x.2 with
        scale := limiterScale x.2.scale (limiterTarget x.2.acc x.1.config.budget) x.1.config.releaseStep, acc := 0 }
    else { x.2 with acc := 0 })

section
variable (c : Fin 8) (s : State)

@[simp] theorem unit_countFrame : unit c (countFrame s) = unit c s := by simp [unit]

@[simp] theorem unit_raise (e : Source) : unit c (raise e s) = unit c s := by simp [unit]

@[simp] theorem unit_raiseWhen (b : Bool) (e : Source) : unit c (raiseWhen b e s) = unit c s := by simp [unit]

theorem unit_modifyPort (f : ChainPort → ChainPort) : unit c (s.modifyPort c f) = (f (unit c s).1, (unit c s).2) := by
  simp [unit]

theorem unit_modifyPort_other {d : Fin 8} (h : c ≠ d) (f : ChainPort → ChainPort) :
    unit d (s.modifyPort c f) = unit d s := by
  simp [unit, show d.val ≠ c.val from fun he => h (Fin.ext he.symm)]

theorem unit_modifyLimiter (f : Limiter → Limiter) :
    unit c (s.modifyLimiter c f) = ((unit c s).1, f (unit c s).2) := by
  simp [unit]

theorem unit_modifyLimiter_other {d : Fin 8} (h : c ≠ d) (f : Limiter → Limiter) :
    unit d (s.modifyLimiter c f) = unit d s := by
  simp [unit, show d.val ≠ c.val from fun he => h (Fin.ext he.symm)]

theorem unit_dropLimiter : unit c (dropLimiter c s) = ((unit c s).1, (unit c s).2.drop) :=
  unit_modifyLimiter c s _

theorem unit_dropLimiter_other {d : Fin 8} (h : c ≠ d) : unit d (dropLimiter c s) = unit d s :=
  unit_modifyLimiter_other c s h _

theorem unit_compareRoster (d : Fin 8) : unit d (compareRoster c s) = unit d s := unit_raiseWhen ..

theorem unit_endEnumeration : unit c (endEnumeration c s) = enumerationEnd (unit c s) := by
  have hif : endEnumeration c s = if (unit c s).1.collection.isEmpty then s.modifyPort c ChainPort.enumFail
      else raise .chainUp (dropLimiter c (s.modifyPort c ChainPort.install)) := rfl
  rw [hif, enumerationEnd]
  split
  · exact unit_modifyPort ..
  · rw [unit_raise, unit_dropLimiter, unit_modifyPort]

theorem unit_markSilent (i : Fin 16) : unit c (markSilent c i s) = ((unit c s).1.silence i, (unit c s).2) := by
  have hif : markSilent c i s = if silentDue (unit c s).1 i then raise .tileSilent (s.modifyPort c fun p =>
      { p with reports := modifyAt p.reports i fun q => { q with silent := true }
               silentEvents := p.silentEvents.inc }) else s := rfl
  rw [hif, ChainPort.silence]
  split
  · rw [unit_raise, unit_modifyPort]
  · rfl

theorem unit_failChain : unit c (failChain c s) = failureEnd (unit c s) := by
  have hif : failChain c s = if failureDue (unit c s).1 then
      raise .chainFailed (dropLimiter c (s.modifyPort c ChainPort.fail)) else s := rfl
  rw [hif, failureEnd]
  split
  · rw [unit_raise, unit_dropLimiter, unit_modifyPort]
  · rfl

theorem unit_failedFrameEnd : unit c (failedFrameEnd c s) = holdoffEnd (unit c s) := by
  have hcount := unit_modifyPort c s ChainPort.countHoldoff
  have hif : failedFrameEnd c s = if recoveryDue (unit c (s.modifyPort c ChainPort.countHoldoff)).1 then
      (s.modifyPort c ChainPort.countHoldoff).modifyPort c fun p =>
        { p with state := .probe, newlyEnabled := false, windowOpen := false }
      else s.modifyPort c ChainPort.countHoldoff := rfl
  rw [hif, hcount, holdoffEnd]
  split
  · rw [unit_modifyPort, hcount]
  · rw [hcount]

/-- One port's steps leave every other port and limiter alone. -/
theorem unit_portSteps_other {d : Fin 8} (h : c ≠ d) (p : ChainPort) : ∀ f ∈ portSteps c p, ∀ s, unit d (f s) = unit d s := by
  intro f hf s
  unfold portSteps at hf
  split at hf
  · simp at hf
  · obtain rfl := List.mem_singleton.mp hf
    exact unit_modifyPort_other c s h _
  · split at hf
    · simp only [List.mem_cons, List.not_mem_nil, or_false] at hf
      obtain rfl | rfl := hf
      · exact unit_compareRoster c s d
      · unfold endEnumeration
        split
        · exact unit_modifyPort_other c s h _
        · rw [unit_raise, unit_dropLimiter_other c _ h, unit_modifyPort_other c s h]
    · simp at hf
  · simp only [runSteps, List.mem_append, List.mem_cons, List.mem_map, List.not_mem_nil, or_false] at hf
    obtain (rfl | ⟨i, -, rfl⟩) | rfl := hf
    · exact unit_modifyPort_other c s h _
    · unfold markSilent
      split
      · rw [unit_raise, unit_modifyPort_other c s h]
      · rfl
    · unfold failChain
      split
      · rw [unit_raise, unit_dropLimiter_other c _ h, unit_modifyPort_other c s h]
      · rfl
  · obtain rfl := List.mem_singleton.mp hf
    unfold failedFrameEnd recoverChain
    split
    · rw [unit_modifyPort_other c _ h, unit_modifyPort_other c s h]
    · exact unit_modifyPort_other c s h _

end

theorem foldl_silence (xs : List (Fin 16)) (x : ChainPort × Limiter) :
    xs.foldl (fun (x : ChainPort × Limiter) i => (x.1.silence i, x.2)) x = (xs.foldl ChainPort.silence x.1, x.2) := by
  induction xs generalizing x with
  | nil => rfl
  | cons i xs ih => rw [List.foldl_cons, ih, List.foldl_cons]

/-- R55, R56: freshness, silence, then failure. -/
theorem unit_runSteps (w : EndWork) (c : Fin 8) :
    unit c (w.actAll (runSteps c)).state = failureEnd ((unit c w.state).1.judged, (unit c w.state).2) := by
  have hcount := unit_countFrame c
  rw [runSteps, EndWork.actAll_append, EndWork.actAll_cons, EndWork.actAll_nil,
    EndWork.act_project hcount (unit_failChain c), EndWork.actAll_cons, EndWork.actAll_map,
    EndWork.foldl_project (π := unit c) (g := fun x i => (x.1.silence i, x.2))
      (fun v i => EndWork.act_project (π := unit c) (g := fun x => (x.1.silence i, x.2)) hcount
        (fun s => unit_markSilent c s i) v),
    EndWork.act_project (π := unit c) (g := fun x => (x.1.evaluate, x.2)) hcount
      (fun s => unit_modifyPort c s ChainPort.evaluate),
    foldl_silence, ChainPort.judged]

/-- R50–R57: one port's evaluation at an output frame end. -/
theorem unit_portFrameEnd (w : EndWork) (c : Fin 8) : unit c (portFrameEnd w c).state = portEnd (unit c w.state) := by
  have hcount := unit_countFrame c
  have hsteps : portFrameEnd w c = w.actAll (portSteps c (unit c w.state).1) := rfl
  rw [hsteps]
  cases hs : (unit c w.state).1.state with
  | off => simp only [portSteps, portEnd, hs, EndWork.actAll_nil]
  | probe =>
    simp only [portSteps, portEnd, hs]
    exact EndWork.act_project (π := unit c) (g := fun x => (x.1.closeProbe, x.2)) hcount
      (fun s => unit_modifyPort c s ChainPort.closeProbe) w
  | enumerate =>
    simp only [portSteps, portEnd, hs]
    split
    · rw [EndWork.actAll_cons, EndWork.actAll_cons, EndWork.actAll_nil,
        EndWork.act_project hcount (unit_endEnumeration c),
        EndWork.act_project (π := unit c) (g := id) hcount (fun s => unit_compareRoster c s c)]
      rfl
    · rfl
  | run =>
    simp only [portSteps, portEnd, hs]
    exact unit_runSteps w c
  | failed =>
    simp only [portSteps, portEnd, hs]
    exact EndWork.act_project hcount (unit_failedFrameEnd c) w

theorem unit_portFrameEnd_other (w : EndWork) {c d : Fin 8} (h : c ≠ d) :
    unit d (portFrameEnd w c).state = unit d w.state :=
  EndWork.actAll_keeps (P := fun s => unit d s = unit d w.state) rfl
    (fun f hf s hs => (unit_portSteps_other c h _ f hf s).trans hs) fun s hs => (unit_countFrame d s).trans hs

/-- R50–R57: the ports' work at an output frame end, port by port. -/
theorem unit_portsFrameEnd (w : EndWork) (c : Fin 8) : unit c (portsFrameEnd w).state = portEnd (unit c w.state) :=
  foldl_units (g := fun _ => portEnd) unit_portFrameEnd (fun w _ _ h => unit_portFrameEnd_other w h) c w

/-! ## The limiters (R91–R93) -/

theorem unit_evaluateLimiter (c : Fin 8) (s : State) : unit c (evaluateLimiter c s) = limiterEnd (unit c s) := by
  have hif : evaluateLimiter c s = if (unit c s).1.state == .run && (unit c s).2.measured then
      raiseWhen (raisesLimiting s.power.limiters[c].scale (newScale s c)) .limiting
        (s.modifyLimiter c fun l => { l with scale := newScale s c, acc := 0 })
      else s.modifyLimiter c fun l => { l with acc := 0 } := rfl
  rw [hif, limiterEnd]
  split
  · rw [unit_raiseWhen, unit_modifyLimiter]
    rfl
  · rw [unit_modifyLimiter]

theorem unit_evaluateLimiter_other {c d : Fin 8} (h : c ≠ d) (s : State) : unit d (evaluateLimiter c s) = unit d s := by
  unfold evaluateLimiter
  split
  · rw [unit_raiseWhen, unit_modifyLimiter_other c s h]
  · exact unit_modifyLimiter_other c s h _

theorem unit_powerFrameEnd (w : EndWork) (c : Fin 8) : unit c (powerFrameEnd w).state = limiterEnd (unit c w.state) := by
  refine foldl_units (π := unit) (g := fun _ => limiterEnd) (fun w c => ?_) (fun w c d h => ?_) c w
  · exact (EndWork.act_project (π := unit c) (g := id) (unit_countFrame c) (fun s => unit_raiseWhen c s _ _) _).trans
      (EndWork.act_project (unit_countFrame c) (unit_evaluateLimiter c) w)
  · exact (EndWork.act_project (π := unit d) (g := id) (unit_countFrame d) (fun s => unit_raiseWhen d s _ _) _).trans
      (EndWork.act_project (g := id) (unit_countFrame d) (unit_evaluateLimiter_other h) w)

/-! ## The walk over the due cues and the check leave the ports, the limiters and the zones alone -/

section
variable {P : State → Prop} (hr : ∀ e s, P s → P (raise e s))
  (hwalk : ∀ (s : State) l r cu li f, P s →
    P { s with looks := l, power := { s.power with ramp := r }, cues := cu, lights := li, follow := f })
include hr hwalk

theorem firingSteps_keepsRest (c : Cue) : ∀ f ∈ firingSteps c, ∀ s, P s → P (f s) := by
  intro f hf s h
  have hcues : ∀ s cu, P s → P { s with cues := cu } := fun s cu h =>
    hwalk s s.looks s.power.ramp cu s.lights s.follow h
  have hlights : ∀ li fo, P { s with lights := li, follow := fo } := fun li fo =>
    hwalk s s.looks s.power.ramp s.cues li fo h
  have hskip : ∀ id k, P (noteSkip id k s) := fun id k => hr _ _ (hcues s _ h)
  simp only [firingSteps, List.mem_append, List.mem_cons, List.mem_map, List.not_mem_nil, or_false] at hf
  obtain ((rfl | rfl | rfl) | ⟨x, -, rfl⟩) | rfl | rfl | rfl := hf
  · unfold issueSwap swapLook
    split
    · split
      · exact hr _ _ (hwalk s _ s.power.ramp s.cues s.lights s.follow h)
      · exact hr _ _ h
    · exact h
  · unfold noteSwap
    split
    · exact hskip _ _
    · exact h
  · unfold issueMaster
    split
    · exact hwalk s s.looks _ s.cues s.lights s.follow h
    · exact h
  · unfold issueFade lightFade
    split
    · exact hlights _ s.follow
    all_goals exact hskip _ _
  · unfold issueFollow followAction
    split
    · split
      · exact hlights _ _
      · exact hlights _ s.follow
    · exact h
  · unfold issueLightMaster
    split
    · exact hlights _ s.follow
    · exact h
  · exact hr _ _ (hcues s _ h)

theorem checkFrameEnd_keepsRest {s : State} (h : P s) : P (checkFrameEnd s) := by
  have hlooks : ∀ l, P { s with looks := l } := fun l => hwalk s l s.power.ramp s.cues s.lights s.follow h
  unfold checkFrameEnd
  split
  · split
    · exact hlooks _
    · exact hr _ _ (hlooks _)
  · exact h

variable (hc : ∀ s, P s → P (countFrame s))
include hc

theorem cuesFrameEnd_keepsRest {w : EndWork} (h : P w.state) : P (cuesFrameEnd w).state := by
  refine EndWork.act_keeps (EndWork.actAll_keeps h (fun f hf s hs => ?_) hc)
    (fun s hs => hwalk s s.looks s.power.ramp _ s.lights s.follow hs) hc
  obtain ⟨c, -, hf⟩ := List.mem_flatMap.mp hf
  exact firingSteps_keepsRest hr hwalk c f hf s hs

theorem checked_keepsRest {w : EndWork} (h : P w.state) : P ((cuesFrameEnd w).act checkFrameEnd).state :=
  EndWork.act_keeps (cuesFrameEnd_keepsRest hr hwalk hc h) (fun _ => checkFrameEnd_keepsRest hr hwalk) hc

end

/-! ## The stages of a frame end, named -/

/-- R121, R40: the walk over the due cues and the check, before the blocks behind the cue engine. -/
def checkedWork (order : FrameEndOrder) (s : State) : EndWork :=
  (cuesFrameEnd { state := s, left := some order.countAt }).act checkFrameEnd

theorem frameEndWork_eq (order : FrameEndOrder) (s : State) :
    frameEndWork order s = ((blocksFrameEnd order (checkedWork order s)).act publishAverages).finish := rfl

/-- What the blocks behind the cue engine make of a part, the power block first or last. -/
theorem blocksFrameEnd_eq (order : FrameEndOrder) (w : EndWork) :
    blocksFrameEnd order w =
      match order.powerFirst, order.thermalFirst with
      | true, true => portsFrameEnd (thermalFrameEnd (powerFrameEnd w))
      | true, false => thermalFrameEnd (portsFrameEnd (powerFrameEnd w))
      | false, true => powerFrameEnd (portsFrameEnd (thermalFrameEnd w))
      | false, false => powerFrameEnd (thermalFrameEnd (portsFrameEnd w)) := by
  unfold blocksFrameEnd portsAndThermal
  cases order.powerFirst <;> cases order.thermalFirst <;> simp only [if_true, if_false, Bool.false_eq_true]

/-- A part that the blocks behind the cue engine leave alone is what the walk and the check make of it. -/
theorem frameEndWork_project {α : Type} {π : State → α} (hc : ∀ s, π (countFrame s) = π s)
    (hpublish : ∀ s, π (publishAverages s) = π s) (order : FrameEndOrder) (s : State) :
    π (frameEndWork order s) = π (blocksFrameEnd order (checkedWork order s)).state := by
  rw [frameEndWork_eq, EndWork.finish_project hc]
  exact EndWork.act_project (g := id) hc hpublish _

/-! ## A port with its limiter over a whole frame end -/

theorem unit_checkedWork (order : FrameEndOrder) (s : State) (c : Fin 8) :
    unit c (checkedWork order s).state = unit c s := by
  unfold checkedWork
  have hstart : unit c ({ state := s, left := some order.countAt } : EndWork).state = unit c s := rfl
  refine checked_keepsRest (P := fun t => unit c t = unit c s) (fun e t h => ?_) (fun _ _ _ _ _ _ h => ?_) (fun t h => ?_)
    hstart
  · exact (unit_raise c t e).trans h
  · exact h
  · exact (unit_countFrame c t).trans h

theorem unit_thermalFrameEnd (w : EndWork) (c : Fin 8) : unit c (thermalFrameEnd w).state = unit c w.state :=
  thermalFrameEnd_keeps (P := fun t => unit c t = unit c w.state) (fun e t h => (unit_raise c t e).trans h)
    (fun t h => (unit_countFrame c t).trans h) (fun _ _ _ h => h) rfl

/-- R50–R57, R91–R93: a port and its limiter over an output frame end. -/
theorem unit_frameEndWork (order : FrameEndOrder) (s : State) (c : Fin 8) :
    unit c (frameEndWork order s) =
      if order.powerFirst then portEnd (limiterEnd (unit c s)) else limiterEnd (portEnd (unit c s)) := by
  rw [frameEndWork_project (π := unit c) (unit_countFrame c) (fun _ => rfl), blocksFrameEnd_eq]
  cases order.powerFirst <;> cases order.thermalFirst <;>
    simp only [unit_portsFrameEnd, unit_thermalFrameEnd, unit_powerFrameEnd, unit_checkedWork, if_true, if_false,
      Bool.false_eq_true]

end Sys2Proof.Machine
end

section
/-! A chain port in RUN at an output frame end, and what the ports' and the limiters' work raises (R52, R55, R56, R95). -/

namespace Sys2Proof.Machine

/-! ## Silence (R55) -/

theorem Counter.add_add (c : Counter) (a b : Nat) : (c.add a).add b = c.add (a + b) := by
  unfold Counter.add Config.counterMax
  congr 1
  · show min 65535 (min 65535 (c.value + a) + b) = min 65535 (c.value + (a + b))
    omega
  · show ((c.overflow || decide (65535 ≤ c.value + a)) || decide (65535 ≤ min 65535 (c.value + a) + b))
      = (c.overflow || decide (65535 ≤ c.value + (a + b)))
    rw [Bool.or_assoc, ← Bool.decide_or]
    congr 1
    exact decide_eq_decide.mpr (by omega)

theorem ChainPort.silence_frame (p : ChainPort) (i : Fin 16) :
    p.silence i = { p with reports := (p.silence i).reports, silentEvents := (p.silence i).silentEvents } := by
  unfold ChainPort.silence
  split <;> rfl

theorem ChainPort.silence_report (p : ChainPort) (i j : Fin 16) :
    (p.silence i).reports[j] =
      if j = i ∧ silentDue p i = true then { p.reports[j] with silent := true } else p.reports[j] := by
  unfold ChainPort.silence
  by_cases hd : silentDue p i = true
  · rw [if_pos hd, Fin.getElem_fin, modifyAt_getElem]
    by_cases hj : j = i
    · subst hj; simp [hd]
    · simp [hj, show j.val ≠ i.val from fun h => hj (Fin.ext h)]
  · rw [if_neg hd, if_neg fun h => hd h.2]

theorem ChainPort.silence_events (p : ChainPort) (i : Fin 16) :
    (p.silence i).silentEvents = if silentDue p i then p.silentEvents.inc else p.silentEvents := by
  unfold ChainPort.silence
  split <;> rfl

theorem ChainPort.silence_due (p : ChainPort) {i j : Fin 16} (h : j ≠ i) : silentDue (p.silence i) j = silentDue p j := by
  have hreport : (p.silence i).reports[j] = p.reports[j] := by
    rw [ChainPort.silence_report, if_neg fun hj => h hj.1]
  unfold silentDue
  rw [hreport, ChainPort.silence_frame]

theorem ChainPort.reports_frame_trans {a b c : ChainPort}
    (hab : a = { b with reports := a.reports, silentEvents := a.silentEvents })
    (hbc : b = { c with reports := b.reports, silentEvents := b.silentEvents }) :
    a = { c with reports := a.reports, silentEvents := a.silentEvents } := by
  cases a; cases b; cases c
  simp_all

/-- R55: the marks of a run of positions. -/
theorem foldl_silence_spec {xs : List (Fin 16)} (hn : xs.Nodup) (p : ChainPort) :
    let q := xs.foldl ChainPort.silence p
    q = { p with reports := q.reports, silentEvents := q.silentEvents }
      ∧ (∀ j : Fin 16, q.reports[j] =
          if j ∈ xs ∧ silentDue p j = true then { p.reports[j] with silent := true } else p.reports[j])
      ∧ (∀ j ∉ xs, silentDue q j = silentDue p j)
      ∧ (xs.countP (silentDue p) ≠ 0 → q.silentEvents = p.silentEvents.add (xs.countP (silentDue p)))
      ∧ (xs.countP (silentDue p) = 0 → q.silentEvents = p.silentEvents) := by
  induction xs generalizing p with
  | nil => exact ⟨rfl, fun j => by simp, fun _ _ => rfl, fun h => absurd rfl h, fun _ => rfl⟩
  | cons i xs ih =>
    obtain ⟨hi, hxs⟩ := List.nodup_cons.mp hn
    intro q
    obtain ⟨hframe, hreports, hdue, hcount, hnone⟩ := ih hxs (p.silence i)
    have hne : ∀ j ∈ xs, j ≠ i := fun j hj h => hi (h ▸ hj)
    have hsame : xs.countP (silentDue (p.silence i)) = xs.countP (silentDue p) :=
      List.countP_congr fun j hj => by rw [ChainPort.silence_due p (hne j hj)]
    rw [hsame] at hcount hnone
    refine ⟨?_, fun j => ?_, fun j hj => ?_, fun hpos => ?_, fun hzero => ?_⟩
    · exact ChainPort.reports_frame_trans hframe (ChainPort.silence_frame p i)
    · refine (hreports j).trans ?_
      by_cases hj : j = i
      · subst hj
        rw [if_neg fun h => hi h.1, ChainPort.silence_report]
        simp
      · have hreport : (p.silence i).reports[j] = p.reports[j] := by
          rw [ChainPort.silence_report, if_neg fun h => hj h.1]
        rw [ChainPort.silence_due p hj, hreport]
        simp [hj]
    · rw [List.mem_cons, not_or] at hj
      exact (hdue j hj.2).trans (ChainPort.silence_due p hj.1)
    · have hevents := ChainPort.silence_events p i
      by_cases hd : silentDue p i = true
      · rw [if_pos hd] at hevents
        rw [List.countP_cons_of_pos hd, Nat.add_comm, ← Counter.add_add]
        by_cases hz : xs.countP (silentDue p) = 0
        · refine (hnone hz).trans (hevents.trans ?_)
          rw [hz, Counter.add_add]
          rfl
        · exact (hcount hz).trans (by rw [hevents]; rfl)
      · rw [if_neg hd] at hevents
        rw [List.countP_cons_of_neg hd] at hpos ⊢
        exact (hcount hpos).trans (by rw [hevents])
    · have hd : ¬ silentDue p i = true := fun hd => by
        rw [List.countP_cons_of_pos hd] at hzero
        omega
      rw [List.countP_cons_of_neg hd] at hzero
      exact (hnone hzero).trans ((ChainPort.silence_events p i).trans (if_neg hd))

/-! ## A port in RUN (R55, R56) -/

/-- R55: the count of frame ends without a report. -/
def Position.sinceNext (q : Position) : Nat := if q.fresh then 0 else min 255 (q.since + 1)

theorem Position.evaluate_fields (q : Position) :
    q.evaluate.last = q.last ∧ q.evaluate.since = q.sinceNext ∧ q.evaluate.fresh = false
      ∧ (q.evaluate.silent = true ↔ q.silent = true ∧ q.fresh = false) := by
  unfold Position.evaluate Position.sinceNext
  cases q.fresh <;> simp

section
variable {p : ChainPort}

theorem ChainPort.evaluate_report (p : ChainPort) (i : Fin 16) :
    p.evaluate.reports[i] = if i.val < p.roster.length then p.reports[i].evaluate else p.reports[i] :=
  Vector.getElem_ofFn ..

/-- R55, Table 3-3: a position comes to be marked SILENT. -/
theorem silentDue_evaluate_iff (p : ChainPort) (i : Fin 16) :
    silentDue p.evaluate i = true ↔
      p.state = .run ∧ 0 < i.val ∧ i.val < p.roster.length ∧ p.config.silentLimit ≤ p.reports[i].sinceNext
        ∧ ¬ (p.reports[i].silent = true ∧ p.reports[i].fresh = false) := by
  have hcond : silentDue p.evaluate i = true ↔
      p.state = .run ∧ 0 < i.val ∧ i.val < p.roster.length ∧ p.config.silentLimit ≤ p.evaluate.reports[i].since
        ∧ p.evaluate.reports[i].silent ≠ true := by
    simp only [silentDue, Bool.and_eq_true, beq_iff_eq, decide_eq_true_eq, Bool.not_eq_true', Bool.not_eq_true, and_assoc]
    rfl
  obtain ⟨-, hsince, -, hsilent⟩ := p.reports[i].evaluate_fields
  rw [hcond]
  refine and_congr_right fun _ => and_congr_right fun _ => and_congr_right fun hlen => ?_
  rw [ChainPort.evaluate_report, if_pos hlen, hsince, ne_eq, hsilent]

theorem ChainPort.judged_frame (p : ChainPort) :
    p.judged = { p with reports := p.judged.reports, silentEvents := p.judged.silentEvents } := by
  obtain ⟨h, -⟩ := foldl_silence_spec (List.nodup_finRange 16) p.evaluate
  exact h

theorem ChainPort.judged_fields (p : ChainPort) :
    p.judged.state = p.state ∧ p.judged.roster = p.roster ∧ p.judged.config = p.config ∧ p.judged.stale = p.stale := by
  refine ⟨?_, ?_, ?_, ?_⟩ <;> rw [ChainPort.judged_frame]

/-- R55: every report record after freshness and silence. -/
theorem ChainPort.judged_report (p : ChainPort) (i : Fin 16) :
    p.judged.reports[i] =
      if silentDue p.evaluate i = true then { p.evaluate.reports[i] with silent := true } else p.evaluate.reports[i] := by
  obtain ⟨-, h, -⟩ := foldl_silence_spec (List.nodup_finRange 16) p.evaluate
  refine (h i).trans ?_
  simp

theorem ChainPort.judged_last (p : ChainPort) (i : Fin 16) : p.judged.reports[i].last = p.reports[i].last := by
  have heval : p.evaluate.reports[i].last = p.reports[i].last := by
    rw [ChainPort.evaluate_report]
    split
    · exact p.reports[i].evaluate_fields.1
    · rfl
  rw [ChainPort.judged_report]
  split <;> exact heval

/-- R55: a roster position after the evaluation. -/
theorem ChainPort.judged_position (hrun : p.state = .run) {i : Fin 16} (hi : i.val < p.roster.length) :
    p.judged.reports[i].last = p.reports[i].last ∧ p.judged.reports[i].since = p.reports[i].sinceNext
      ∧ p.judged.reports[i].fresh = false
      ∧ (p.judged.reports[i].silent = true ↔
          p.reports[i].silent = true ∧ p.reports[i].fresh = false
            ∨ 0 < i.val ∧ p.config.silentLimit ≤ p.reports[i].sinceNext) := by
  obtain ⟨-, hsince, hfresh, hsilent⟩ := p.reports[i].evaluate_fields
  have heval : p.evaluate.reports[i] = p.reports[i].evaluate := (ChainPort.evaluate_report p i).trans (if_pos hi)
  have hdue := silentDue_evaluate_iff p i
  refine ⟨p.judged_last i, ?_⟩
  rw [ChainPort.judged_report]
  split
  · next h =>
    obtain ⟨-, h0, -, hlimit, -⟩ := hdue.mp h
    rw [heval]
    exact ⟨hsince, hfresh, iff_of_true rfl (.inr ⟨h0, hlimit⟩)⟩
  · next h =>
    rw [heval]
    refine ⟨hsince, hfresh, hsilent.trans ⟨.inl, fun hor => hor.elim id fun ⟨h0, hlimit⟩ => ?_⟩⟩
    by_contra hno
    exact h (hdue.mpr ⟨hrun, h0, hi, hlimit, hno⟩)

theorem failureDue_iff (q : ChainPort) :
    failureDue q = true ↔ q.state = .run ∧ q.roster ≠ [] ∧ q.config.silentLimit ≤ q.reports[(0 : Fin 16)].since := by
  simp only [failureDue, Bool.and_eq_true, beq_iff_eq, Bool.not_eq_true', List.isEmpty_eq_false_iff, decide_eq_true_eq,
    and_assoc, ne_eq]

/-- R56: the chain fails at this frame end. -/
theorem failureDue_judged_iff (p : ChainPort) :
    failureDue p.judged = true ↔
      p.state = .run ∧ p.roster ≠ [] ∧ p.config.silentLimit ≤ p.reports[(0 : Fin 16)].sinceNext := by
  obtain ⟨hstate, hroster, hconfig, -⟩ := p.judged_fields
  rw [failureDue_iff, hstate, hroster, hconfig]
  refine and_congr_right fun hrun => and_congr_right fun hroster => ?_
  have hpos : (0 : Fin 16).val < p.roster.length := by
    rw [Fin.val_zero]
    exact List.length_pos_iff.mpr hroster
  obtain ⟨-, hsince, -⟩ := ChainPort.judged_position hrun hpos
  rw [hsince]

end

end Sys2Proof.Machine
end

section
/-! What an output frame end makes of each chain port and its limiter (R50–R57, R91–R95). -/

namespace Sys2Proof.Machine

/-! ## Flags raised at a frame end stay set to its end -/

theorem EndWork.act_reach {P Q : State → Prop} {f : State → State} {w : EndWork} (h : Q w.state)
    (hf : ∀ s, Q s → P (f s)) (hc : ∀ s, Q s → Q (countFrame s)) : P (w.act f).state := by
  obtain ⟨e, -⟩ | ⟨e, -⟩ := w.act_cases f <;> rw [e]
  · exact hf _ h
  · exact hf _ (hc _ h)

section
variable {x : Source}

theorem countFrame_has_of {s : State} (h : s.events.has x = true) : (countFrame s).events.has x = true := by
  rw [EventUnit.has] at h ⊢
  rw [countFrame_flags]
  exact h

theorem portFrameEnd_has_of {w : EndWork} (c : Fin 8) (h : w.state.events.has x = true) :
    (portFrameEnd w c).state.events.has x = true :=
  EndWork.actAll_keeps (P := fun s => s.events.has x = true) h
    (portSteps_keeps (P := fun s => s.events.has x = true) (fun e _ => raise_has_of e) (fun _ _ _ _ h => h) c _)
    fun _ => countFrame_has_of

theorem portsFrameEnd_has_of {w : EndWork} (h : w.state.events.has x = true) :
    (portsFrameEnd w).state.events.has x = true :=
  portsFrameEnd_raisings (P := fun u _ => u.has x = true) (fun e _ => raise_has_of e) (fun _ => countFrame_has_of) w h

theorem thermalFrameEnd_has_of {w : EndWork} (h : w.state.events.has x = true) :
    (thermalFrameEnd w).state.events.has x = true :=
  thermalFrameEnd_raisings (P := fun u _ => u.has x = true) (fun e _ => raise_has_of e) (fun _ => countFrame_has_of) w h

theorem powerFrameEnd_has_of {w : EndWork} (h : w.state.events.has x = true) :
    (powerFrameEnd w).state.events.has x = true :=
  powerFrameEnd_raisings (P := fun u _ => u.has x = true) (fun e _ => raise_has_of e) (fun _ => countFrame_has_of) w h

theorem blocksFrameEnd_has_of (order : FrameEndOrder) {w : EndWork} (h : w.state.events.has x = true) :
    (blocksFrameEnd order w).state.events.has x = true :=
  blocksFrameEnd_keeps (P := fun s => s.events.has x = true) (fun e _ => raise_has_of e) (fun _ => countFrame_has_of)
    (fun _ _ _ h => h) (fun _ _ _ h => h) order h

theorem frameEndWork_has_of_blocks {order : FrameEndOrder} {s : State}
    (h : (blocksFrameEnd order (checkedWork order s)).state.events.has x = true) :
    (frameEndWork order s).events.has x = true := by
  rw [frameEndWork_eq]
  exact EndWork.finish_keeps (P := fun s => s.events.has x = true)
    (EndWork.act_keeps (P := fun s => s.events.has x = true) h (fun _ h => h) fun _ => countFrame_has_of)
    fun _ => countFrame_has_of

/-- What one port's evaluation raises is set at the end of the frame end's work. -/
theorem frameEndWork_has_of_port {c : Fin 8} {cond : ChainPort → Prop}
    (hreach : ∀ w, cond (unit c w.state).1 → (portFrameEnd w c).state.events.has x = true) {order : FrameEndOrder}
    {s : State} (h : cond s.ports[c]) : (frameEndWork order s).events.has x = true := by
  have hports : ∀ w : EndWork, (unit c w.state).1 = s.ports[c] → (portsFrameEnd w).state.events.has x = true :=
    fun w hw => by
      unfold portsFrameEnd
      have hw' : cond (unit c w.state).1 := by
        rw [hw]
        exact h
      exact foldl_units_reach (step := portFrameEnd) (π := unit) (cond := fun u => cond u.1)
        (P := fun s => s.events.has x = true) (fun w _ _ h => unit_portFrameEnd_other w h)
        (fun _ c => portFrameEnd_has_of c) hreach hw'
  refine frameEndWork_has_of_blocks ?_
  rw [blocksFrameEnd_eq]
  have hstart := unit_checkedWork order s c
  split
  · exact hports _ (by rw [unit_thermalFrameEnd, unit_powerFrameEnd, hstart]; rfl)
  · exact thermalFrameEnd_has_of (hports _ (by rw [unit_powerFrameEnd, hstart]; rfl))
  · exact powerFrameEnd_has_of (hports _ (by rw [unit_thermalFrameEnd, hstart]; rfl))
  · exact powerFrameEnd_has_of (thermalFrameEnd_has_of (hports _ (by rw [hstart]; rfl)))

theorem powerFrameEndChain_has_of {w : EndWork} (c : Fin 8) (h : w.state.events.has x = true) :
    (powerFrameEndChain w c).state.events.has x = true :=
  EndWork.act_keeps (P := fun s => s.events.has x = true)
    (EndWork.act_keeps (P := fun s => s.events.has x = true) h
      (evaluateLimiter_raisings (P := fun u _ => u.has x = true) (fun e _ => raise_has_of e) c) fun _ => countFrame_has_of)
    (fun _ => raiseWhen_has_of _ _) fun _ => countFrame_has_of

/-- What one limiter's evaluation raises is set at the end of the frame end's work. -/
theorem frameEndWork_has_of_limiter {c : Fin 8} {cond : ChainPort × Limiter → Prop}
    (hreach : ∀ w, cond (unit c w.state) → (powerFrameEndChain w c).state.events.has x = true) {order : FrameEndOrder}
    {s : State} (hbefore : cond (unit c s)) (hafter : cond (portEnd (unit c s))) :
    (frameEndWork order s).events.has x = true := by
  have hother : ∀ (w : EndWork) (c d : Fin 8), c ≠ d → unit d (powerFrameEndChain w c).state = unit d w.state :=
    fun w c d h =>
      (EndWork.act_project (π := unit d) (g := id) (unit_countFrame d) (fun s => unit_raiseWhen d s _ _) _).trans
        (EndWork.act_project (g := id) (unit_countFrame d) (unit_evaluateLimiter_other h) w)
  have hpower : ∀ w : EndWork, cond (unit c w.state) → (powerFrameEnd w).state.events.has x = true :=
    fun w hw => by
      unfold powerFrameEnd
      exact foldl_units_reach (π := unit) (cond := cond) (P := fun s => s.events.has x = true)
        hother (fun _ c => powerFrameEndChain_has_of c) hreach hw
  refine frameEndWork_has_of_blocks ?_
  rw [blocksFrameEnd_eq]
  have hstart := unit_checkedWork order s c
  split
  · exact portsFrameEnd_has_of (thermalFrameEnd_has_of (hpower _ (by rw [hstart]; exact hbefore)))
  · exact thermalFrameEnd_has_of (portsFrameEnd_has_of (hpower _ (by rw [hstart]; exact hbefore)))
  · exact hpower _ (by rw [unit_portsFrameEnd, unit_thermalFrameEnd, hstart]; exact hafter)
  · exact hpower _ (by rw [unit_thermalFrameEnd, unit_portsFrameEnd, hstart]; exact hafter)

end

/-! ## What a port's evaluation raises (R52, R55, R56) -/

section
variable {c : Fin 8} {w : EndWork}

/-- R52: an enumeration that installs its roster. -/
theorem portFrameEnd_enumerate (hs : (unit c w.state).1.state = .enumerate) (hw : (unit c w.state).1.windowOpen = true) :
    portFrameEnd w c = (w.act (compareRoster c)).act (endEnumeration c) := by
  have hsteps : portFrameEnd w c = w.actAll (portSteps c (unit c w.state).1) := rfl
  rw [hsteps, portSteps, hs]
  simp only [hw, if_true]
  rfl

theorem portFrameEnd_chainUp (hs : (unit c w.state).1.state = .enumerate) (hw : (unit c w.state).1.windowOpen = true)
    (hn : (unit c w.state).1.collection ≠ []) : (portFrameEnd w c).state.events.has .chainUp = true := by
  rw [portFrameEnd_enumerate hs hw]
  refine EndWork.act_reach (P := fun s => s.events.has .chainUp = true) (Q := fun s => (unit c s).1.collection ≠ []) ?_ (fun s h => ?_) (fun s h => ?_)
  · rw [EndWork.act_project (π := unit c) (g := id) (unit_countFrame c) (fun s => unit_compareRoster c s c)]
    exact hn
  · unfold endEnumeration
    rw [if_neg (by rw [List.isEmpty_iff]; exact h)]
    exact raise_has _ _
  · rw [unit_countFrame]
    exact h

theorem portFrameEnd_rosterChanged (hs : (unit c w.state).1.state = .enumerate)
    (hw : (unit c w.state).1.windowOpen = true) (hn : (unit c w.state).1.collection ≠ [])
    (hstale : (unit c w.state).1.stale = true) (hne : (unit c w.state).1.roster ≠ (unit c w.state).1.collection) :
    (portFrameEnd w c).state.events.has .rosterChanged = true := by
  rw [portFrameEnd_enumerate hs hw]
  refine EndWork.act_keeps (P := fun s => s.events.has .rosterChanged = true) ?_ (fun s h => ?_) fun _ => countFrame_has_of
  · refine EndWork.act_reach (P := fun s => s.events.has .rosterChanged = true)
      (Q := fun s => (unit c s).1 = (unit c w.state).1) rfl (fun s h => ?_)
      (fun s h => by rw [unit_countFrame]; exact h)
    have hcond : (!s.ports[c].collection.isEmpty && s.ports[c].stale && s.ports[c].roster != s.ports[c].collection)
        = true := by
      rw [show s.ports[c] = (unit c w.state).1 from h]
      simp [hn, hstale, hne]
    simp only [compareRoster, hcond]
    exact raise_has _ _
  · exact portSteps_keeps (P := fun s => s.events.has .rosterChanged = true) (fun e _ => raise_has_of e)
      (fun _ _ _ _ h => h) c { (unit c w.state).1 with state := .enumerate, windowOpen := true } _ (by simp [portSteps]) s h

/-- R55: the steps of a port in RUN before and from a position's mark on. -/
theorem portFrameEnd_run (hs : (unit c w.state).1.state = .run) :
    portFrameEnd w c =
      ((List.finRange 16).foldl (fun v i => v.act (markSilent c i)) (w.act (State.modifyPort · c ChainPort.evaluate))).act
        (failChain c) := by
  have hsteps : portFrameEnd w c = w.actAll (portSteps c (unit c w.state).1) := rfl
  rw [hsteps, portSteps, hs]
  simp only [runSteps]
  rw [EndWork.actAll_append, EndWork.actAll_cons, EndWork.actAll_cons, EndWork.actAll_nil, EndWork.actAll_map]

theorem unit_marks (xs : List (Fin 16)) (w : EndWork) (c : Fin 8) :
    unit c (xs.foldl (fun v i => v.act (markSilent c i)) (w.act (State.modifyPort · c ChainPort.evaluate))).state =
      (xs.foldl ChainPort.silence (unit c w.state).1.evaluate, (unit c w.state).2) := by
  rw [EndWork.foldl_project (π := unit c) (g := fun x i => (x.1.silence i, x.2))
      (fun v i => EndWork.act_project (π := unit c) (g := fun x => (x.1.silence i, x.2)) (unit_countFrame c)
        (fun s => unit_markSilent c s i) v),
    EndWork.act_project (π := unit c) (g := fun x => (x.1.evaluate, x.2)) (unit_countFrame c)
      (fun s => unit_modifyPort c s ChainPort.evaluate),
    foldl_silence]

theorem portFrameEnd_chainFailed (hs : (unit c w.state).1.state = .run)
    (hf : failureDue (unit c w.state).1.judged = true) : (portFrameEnd w c).state.events.has .chainFailed = true := by
  rw [portFrameEnd_run hs]
  refine EndWork.act_reach (P := fun s => s.events.has .chainFailed = true) (Q := fun s => failureDue (unit c s).1 = true) ?_ (fun s h => ?_) (fun s h => ?_)
  · rw [unit_marks]
    dsimp only
    rw [ChainPort.judged] at hf
    exact hf
  · have hdue : failureDue s.ports[c] = true := h
    rw [failChain, if_pos hdue]
    exact raise_has _ _
  · rw [unit_countFrame]
    exact h

theorem portFrameEnd_tileSilent {i : Fin 16} (hs : (unit c w.state).1.state = .run)
    (hi : silentDue (unit c w.state).1.evaluate i = true) :
    (portFrameEnd w c).state.events.has .tileSilent = true := by
  have hfail : ∀ s : State, s.events.has .tileSilent = true → (failChain c s).events.has .tileSilent = true := fun s h => by
    unfold failChain
    split
    · exact raise_has_of _ h
    · exact h
  have hmark : ∀ (s : State) j, s.events.has .tileSilent = true → (markSilent c j s).events.has .tileSilent = true :=
    fun s j h => by
      unfold markSilent
      split
      · exact raise_has_of _ h
      · exact h
  rw [portFrameEnd_run hs]
  refine EndWork.act_keeps (P := fun s => s.events.has .tileSilent = true) ?_ hfail fun _ => countFrame_has_of
  obtain ⟨before, after, hsplit, hbefore, -⟩ := finRange_split i
  have hn : before.Nodup := (List.nodup_append.mp (hsplit ▸ List.nodup_finRange 16)).1
  obtain ⟨-, -, hdue, -⟩ := foldl_silence_spec hn (unit c w.state).1.evaluate
  rw [hsplit, List.foldl_append, List.foldl_cons]
  refine EndWork.foldl_keeps (P := fun s => s.events.has .tileSilent = true)
    (fun v j h => EndWork.act_keeps (P := fun s => s.events.has .tileSilent = true) h (fun s => hmark s j)
      fun _ => countFrame_has_of) ?_
  refine EndWork.act_reach (P := fun s => s.events.has .tileSilent = true) (Q := fun s => silentDue (unit c s).1 i = true) ?_ (fun s h => ?_) (fun s h => ?_)
  · rw [unit_marks]
    exact (hdue i hbefore).trans hi
  · have hmark : silentDue s.ports[c] i = true := h
    rw [markSilent, if_pos hmark]
    exact raise_has _ _
  · rw [unit_countFrame]
    exact h

/-! ## What a limiter's evaluation raises (R95) -/

/-- R91, R92: the scale an evaluation sets. -/
def nextScale (x : ChainPort × Limiter) : Nat :=
  limiterScale x.2.scale (limiterTarget x.2.acc x.1.config.budget) x.1.config.releaseStep

theorem powerFrameEndChain_limiting (hs : (unit c w.state).1.state = .run) (hm : (unit c w.state).2.measured = true)
    (hl : raisesLimiting (unit c w.state).2.scale (nextScale (unit c w.state)) = true) :
    (powerFrameEndChain w c).state.events.has .limiting = true := by
  refine EndWork.act_keeps (P := fun s => s.events.has .limiting = true) ?_ (fun _ => raiseWhen_has_of _ _)
    fun _ => countFrame_has_of
  refine EndWork.act_reach (P := fun s => s.events.has .limiting = true) (Q := fun s => unit c s = unit c w.state) rfl (fun s h => ?_)
    (fun s h => by rw [unit_countFrame]; exact h)
  have hif : evaluateLimiter c s = if (unit c s).1.state == .run && (unit c s).2.measured then
      raiseWhen (raisesLimiting (unit c s).2.scale (nextScale (unit c s))) .limiting
        (s.modifyLimiter c fun l => { l with scale := newScale s c, acc := 0 })
      else s.modifyLimiter c fun l => { l with acc := 0 } := rfl
  rw [hif, h, hs, hm, hl]
  exact raise_has _ _

theorem powerFrameEndChain_heavy (hs : (unit c w.state).1.state = .run) (hm : (unit c w.state).2.measured = true)
    (hl : raisesHeavy (unit c w.state).2.scale (nextScale (unit c w.state)) = true) :
    (powerFrameEndChain w c).state.events.has .powerHeavy = true := by
  have heavy : (evaluated w.state c && raisesHeavy w.state.power.limiters[c].scale (newScale w.state c)) = true := by
    have he : evaluated w.state c = ((unit c w.state).1.state == .run && (unit c w.state).2.measured) := rfl
    rw [he, hs, hm]
    exact hl
  simp only [powerFrameEndChain, heavy]
  exact EndWork.act_reach (P := fun s => s.events.has .powerHeavy = true) (Q := fun _ => True) trivial (fun s _ => raise_has _ s) fun _ _ => trivial

end

end Sys2Proof.Machine
end

section
/-! What an output frame end with no start held makes of each chain port and its limiter (R50–R57, R91–R95). -/

namespace Sys2Proof.Machine

/-- R17: an output frame end with no frame start held. -/
theorem exec_outputFrameEnd_free {s : State} (hact : s.timing.phase = .active) (hheld : s.timing.held = false)
    (order : FrameEndOrder) : exec (.outputFrameEnd order) s = .next (endFrame (frameEndWork order s)) := by
  refine congrArg Host.Outcome.next ((if_pos hact).trans (if_neg ?_))
  rw [show (endFrame (frameEndWork order s)).timing.held = (frameEndWork order s).timing.held from rfl,
    frameEndWork_timing, hheld]
  decide

/-! ## A port's evaluation, by its state -/

section
variable {x : ChainPort × Limiter}

theorem portEnd_off (h : x.1.state = .off) : portEnd x = x := by
  simp only [portEnd, h]

theorem portEnd_probe (h : x.1.state = .probe) : portEnd x = (x.1.closeProbe, x.2) := by
  simp only [portEnd, h]

theorem portEnd_enumerate_shut (h : x.1.state = .enumerate) (hw : x.1.windowOpen = false) : portEnd x = x := by
  simp only [portEnd, h, hw, Bool.false_eq_true, if_false]

theorem portEnd_enumerate_none (h : x.1.state = .enumerate) (hw : x.1.windowOpen = true) (hc : x.1.collection = []) :
    portEnd x = (x.1.enumFail, x.2) := by
  simp only [portEnd, h, hw, enumerationEnd, hc, List.isEmpty_nil, if_true]

theorem portEnd_enumerate_some (h : x.1.state = .enumerate) (hw : x.1.windowOpen = true) (hc : x.1.collection ≠ []) :
    portEnd x = (x.1.install, x.2.drop) := by
  simp only [portEnd, h, hw, enumerationEnd, List.isEmpty_iff, hc, if_true, if_false]

theorem portEnd_run_up (h : x.1.state = .run) (hf : failureDue x.1.judged = false) : portEnd x = (x.1.judged, x.2) := by
  simp only [portEnd, h, failureEnd, hf, Bool.false_eq_true, if_false]

theorem portEnd_run_fails (h : x.1.state = .run) (hf : failureDue x.1.judged = true) :
    portEnd x = (x.1.judged.fail, x.2.drop) := by
  simp only [portEnd, h, failureEnd, hf, if_true]

theorem portEnd_failed (h : x.1.state = .failed) : portEnd x = holdoffEnd x := by
  simp only [portEnd, h]

/-- R54–R57: what a port's evaluation makes of the port does not ask the limiter. -/
theorem portEnd_fst (p : ChainPort) (l l' : Limiter) : (portEnd (p, l)).1 = (portEnd (p, l')).1 := by
  cases hs : p.state <;>
    simp only [portEnd, hs, enumerationEnd, failureEnd, holdoffEnd, apply_ite Prod.fst]

/-- R93: a port's evaluation leaves the limiter or drops it. -/
theorem portEnd_limiter (x : ChainPort × Limiter) : (portEnd x).2 = x.2 ∨ (portEnd x).2 = x.2.drop := by
  unfold portEnd enumerationEnd failureEnd holdoffEnd
  split <;> (repeat' split) <;> simp

theorem portEnd_config (x : ChainPort × Limiter) : (portEnd x).1.config = x.1.config := by
  obtain ⟨-, -, hjudged, -⟩ := x.1.judged_fields
  unfold portEnd enumerationEnd failureEnd holdoffEnd
  split <;> (repeat' split) <;>
    simp only [ChainPort.closeProbe, ChainPort.enumFail, ChainPort.install, ChainPort.fail, ChainPort.countHoldoff, hjudged]

theorem limiterEnd_evaluated (h : x.1.state = .run) (hm : x.2.measured = true) :
    (limiterEnd x).2 = { x.2 with scale := nextScale x, acc := 0 } := by
  simp only [limiterEnd, h, hm, beq_self_eq_true, Bool.and_self, if_true]
  rfl

theorem limiterEnd_idle (h : x.1.state ≠ .run ∨ x.2.measured = false) : (limiterEnd x).2 = { x.2 with acc := 0 } := by
  refine if_neg fun hyes => ?_
  simp only [Bool.and_eq_true, beq_iff_eq] at hyes
  obtain ⟨hrun, hm⟩ := hyes
  exact h.elim (fun h => h hrun) fun h => by simp [hm] at h

theorem nextScale_le (x : ChainPort × Limiter) : nextScale x ≤ x.2.scale + x.1.config.releaseStep := by
  unfold nextScale limiterScale
  split <;> omega

theorem limiterEnd_scale_le (x : ChainPort × Limiter) : (limiterEnd x).2.scale ≤ x.2.scale + x.1.config.releaseStep := by
  by_cases h : x.1.state = .run ∧ x.2.measured = true
  · rw [limiterEnd_evaluated h.1 h.2]
    exact nextScale_le x
  · rw [limiterEnd_idle (by rw [not_and_or, Bool.not_eq_true] at h; exact h)]
    exact Nat.le_add_right _ _

theorem portEnd_scale_le (x : ChainPort × Limiter) : (portEnd x).2.scale ≤ x.2.scale := by
  obtain h | h := portEnd_limiter x <;> rw [h]
  exact Nat.zero_le _

end

/-! ## A port and its limiter over an output frame end -/

section
variable (order : FrameEndOrder) (s : State) (c : Fin 8)

/-- R50–R57: the port. -/
theorem frameEndWork_port : (frameEndWork order s).ports[c] = (portEnd (unit c s)).1 := by
  have h := congrArg Prod.fst (unit_frameEndWork order s c)
  refine h.trans ?_
  split
  · exact portEnd_fst _ _ _
  · rfl

/-- R91–R93: the limiter. -/
theorem frameEndWork_limiter :
    (frameEndWork order s).power.limiters[c] =
      if order.powerFirst then (portEnd (limiterEnd (unit c s))).2 else (limiterEnd (portEnd (unit c s))).2 := by
  have h := congrArg Prod.snd (unit_frameEndWork order s c)
  refine h.trans ?_
  split <;> rfl

/-- R92: whatever the order, a limiter's scale rises by at most the release step. -/
theorem frameEndWork_scale_le :
    (frameEndWork order s).power.limiters[c].scale ≤ s.power.limiters[c].scale + s.ports[c].config.releaseStep := by
  rw [frameEndWork_limiter]
  split
  · exact (portEnd_scale_le _).trans (limiterEnd_scale_le _)
  · refine (limiterEnd_scale_le _).trans ?_
    rw [portEnd_config]
    exact Nat.add_le_add_right (portEnd_scale_le _) _

variable {order s c}

/-- R93: the limiter of a chain that enters or leaves RUN. -/
theorem frameEndWork_dropped
    (h : ∀ l, (portEnd (s.ports[c], l)).2 = l.drop) :
    (frameEndWork order s).power.limiters[c].scale = 0 ∧ (frameEndWork order s).power.limiters[c].measured = false := by
  rw [frameEndWork_limiter]
  split
  · rw [show (portEnd (limiterEnd (unit c s))).2 = _ from h _]
    exact ⟨rfl, rfl⟩
  · have hdrop : (portEnd (unit c s)).2 = s.power.limiters[c].drop := h _
    rw [limiterEnd_idle (.inr (by rw [hdrop]; rfl)), hdrop]
    exact ⟨rfl, rfl⟩

/-- R91, R92: the limiter of a chain that stays in RUN. -/
theorem frameEndWork_staysUp (hrun : s.ports[c].state = .run) (hf : failureDue s.ports[c].judged = false) :
    (frameEndWork order s).power.limiters[c] = (limiterEnd (unit c s)).2 := by
  obtain ⟨hstate, -, hconfig, -⟩ := s.ports[c].judged_fields
  have hend : ∀ l, portEnd (s.ports[c], l) = (s.ports[c].judged, l) := fun l => portEnd_run_up (x := (s.ports[c], l)) hrun hf
  rw [frameEndWork_limiter]
  split
  · have hpair : limiterEnd (unit c s) = (s.ports[c], (limiterEnd (unit c s)).2) := rfl
    rw [hpair, hend]
  · rw [show portEnd (unit c s) = (s.ports[c].judged, s.power.limiters[c]) from hend _]
    unfold limiterEnd
    simp only [hstate, hconfig]
    rfl

end

/-! ## The cases of the obligation -/

section
variable {order : FrameEndOrder} {s : State} {c : Fin 8}

/-- R52: an enumeration that collected records. -/
theorem frameEnd_installs (hs : s.ports[c].state = .enumerate) (hw : s.ports[c].windowOpen = true)
    (hc : s.ports[c].collection ≠ []) :
    let t := frameEndWork order s
    t.ports[c] = s.ports[c].install ∧ t.events.has .chainUp = true
      ∧ (s.ports[c].stale = true → s.ports[c].roster ≠ s.ports[c].collection → t.events.has .rosterChanged = true)
      ∧ t.power.limiters[c].scale = 0 ∧ t.power.limiters[c].measured = false := by
  intro t
  have hend : ∀ l, portEnd (s.ports[c], l) = (s.ports[c].install, l.drop) := fun l =>
    portEnd_enumerate_some (x := (s.ports[c], l)) hs hw hc
  refine ⟨(frameEndWork_port order s c).trans (congrArg Prod.fst (hend _)), ?_, fun hstale hne => ?_,
    frameEndWork_dropped fun l => congrArg Prod.snd (hend l)⟩
  · exact frameEndWork_has_of_port (c := c)
      (cond := fun p => p.state = .enumerate ∧ p.windowOpen = true ∧ p.collection ≠ [])
      (fun _ ⟨hs, hw, hc⟩ => portFrameEnd_chainUp hs hw hc) ⟨hs, hw, hc⟩
  · exact frameEndWork_has_of_port (c := c)
      (cond := fun p => p.state = .enumerate ∧ p.windowOpen = true ∧ p.collection ≠ [] ∧ p.stale = true
        ∧ p.roster ≠ p.collection)
      (fun _ ⟨hs, hw, hc, hstale, hne⟩ => portFrameEnd_rosterChanged hs hw hc hstale hne) ⟨hs, hw, hc, hstale, hne⟩

theorem portEnd_fails (hs : s.ports[c].state = .run) (hf : failureDue s.ports[c].judged = true) (l : Limiter) :
    portEnd (s.ports[c], l) = (s.ports[c].judged.fail, l.drop) :=
  portEnd_run_fails (x := (s.ports[c], l)) hs hf

/-- R56: the port of a chain that fails. -/
theorem frameEnd_fails_port (hs : s.ports[c].state = .run) (hf : failureDue s.ports[c].judged = true) :
    (frameEndWork order s).ports[c] = s.ports[c].judged.fail := by
  have hport : (frameEndWork order s).ports[c] = (portEnd (s.ports[c], s.power.limiters[c])).1 :=
    frameEndWork_port order s c
  rw [hport, portEnd_fails hs hf]

/-- R93: its limiter. -/
theorem frameEnd_fails_limiter (hs : s.ports[c].state = .run) (hf : failureDue s.ports[c].judged = true) :
    (frameEndWork order s).power.limiters[c].scale = 0 ∧ (frameEndWork order s).power.limiters[c].measured = false :=
  frameEndWork_dropped fun l => by rw [portEnd_fails hs hf]

theorem frameEnd_fails_raises (hs : s.ports[c].state = .run) (hf : failureDue s.ports[c].judged = true) :
    (frameEndWork order s).events.has .chainFailed = true :=
  frameEndWork_has_of_port (c := c) (cond := fun p => p.state = .run ∧ failureDue p.judged = true)
    (fun _ ⟨hs, hf⟩ => portFrameEnd_chainFailed hs hf) ⟨hs, hf⟩

theorem ChainPort.fail_fields (p : ChainPort) :
    p.fail.state = .failed ∧ p.fail.stale = true ∧ p.fail.roster = p.roster ∧ p.fail.holdoffCount = 0
      ∧ p.fail.config = p.config := ⟨rfl, rfl, rfl, rfl, rfl⟩

theorem ChainPort.fail_report (p : ChainPort) (i : Fin 16) :
    p.fail.reports[i].silent = false ∧ p.fail.reports[i].last = p.reports[i].last := by
  simp [ChainPort.fail]

/-- R91, R92, R95: a chain measured and staying in RUN. -/
theorem frameEnd_limits (hs : s.ports[c].state = .run) (hf : failureDue s.ports[c].judged = false)
    (hm : s.power.limiters[c].measured = true) :
    let t := frameEndWork order s
    t.power.limiters[c].scale = nextScale (unit c s)
      ∧ (raisesLimiting s.power.limiters[c].scale (nextScale (unit c s)) = true → t.events.has .limiting = true)
      ∧ (raisesHeavy s.power.limiters[c].scale (nextScale (unit c s)) = true → t.events.has .powerHeavy = true) := by
  intro t
  obtain ⟨hstate, -, hconfig, -⟩ := s.ports[c].judged_fields
  have hend : portEnd (unit c s) = (s.ports[c].judged, s.power.limiters[c]) := portEnd_run_up (x := unit c s) hs hf
  have hnext : nextScale (s.ports[c].judged, s.power.limiters[c]) = nextScale (unit c s) := by
    simp only [nextScale, hconfig]
    rfl
  refine ⟨?_, fun h => ?_, fun h => ?_⟩
  · rw [frameEndWork_staysUp hs hf, limiterEnd_evaluated (x := unit c s) hs hm]
  · refine frameEndWork_has_of_limiter (c := c)
      (cond := fun u => u.1.state = .run ∧ u.2.measured = true ∧ raisesLimiting u.2.scale (nextScale u) = true)
      (fun _ ⟨hs, hm, hl⟩ => powerFrameEndChain_limiting hs hm hl) ⟨hs, hm, h⟩ ?_
    rw [hend, hnext]
    exact ⟨hstate.trans hs, hm, h⟩
  · refine frameEndWork_has_of_limiter (c := c)
      (cond := fun u => u.1.state = .run ∧ u.2.measured = true ∧ raisesHeavy u.2.scale (nextScale u) = true)
      (fun _ ⟨hs, hm, hl⟩ => powerFrameEndChain_heavy hs hm hl) ⟨hs, hm, h⟩ ?_
    rw [hend, hnext]
    exact ⟨hstate.trans hs, hm, h⟩

end

theorem recoveryDue_iff (p : ChainPort) :
    recoveryDue p = true ↔ p.state = .failed ∧ p.config.recovery = .auto ∧ p.config.holdoff ≤ p.holdoffCount := by
  simp only [recoveryDue, Bool.and_eq_true, beq_iff_eq, decide_eq_true_eq, and_assoc]

theorem holdoffEnd_recovers {x : ChainPort × Limiter} (h : recoveryDue x.1.countHoldoff = true) :
    (holdoffEnd x).1 = { x.1.countHoldoff with state := .probe, newlyEnabled := false, windowOpen := false } := if_pos h

theorem holdoffEnd_waits {x : ChainPort × Limiter} (h : ¬ recoveryDue x.1.countHoldoff = true) :
    (holdoffEnd x).1 = x.1.countHoldoff := if_neg h

/-- Settles O42. -/
theorem chainAndPowerFrameEnd : Obligations.ChainAndPowerFrameEnd := by
  intro order s hact hheld
  refine ⟨_, exec_outputFrameEnd_free hact hheld order, fun c => ?_⟩
  intro p q old new since staysUp held current target
  have hq : q = (portEnd (p, old)).1 := frameEndWork_port order s c
  have hfails : failureDue p.judged = true ↔ p.state = .run ∧ ¬ staysUp := by
    rw [failureDue_judged_iff, not_or]
    exact and_congr_right fun _ => and_congr_right fun _ => Nat.not_lt.symm
  refine ⟨fun h => ?_, fun h => ?_, fun h hw hc => ?_, fun h hw hc => ?_, fun h hup => ?_, fun h hdown => ?_, fun h => ?_,
    fun h hup hm => ?_, fun h hup hm => ?_, frameEndWork_scale_le order s c⟩
  · rw [hq]
    obtain h | ⟨h, hw⟩ := h
    · rw [portEnd_off (x := (p, old)) h]
    · rw [portEnd_enumerate_shut (x := (p, old)) h hw]
  · rw [hq, portEnd_probe (x := (p, old)) h]
    rfl
  · rw [hq, portEnd_enumerate_none (x := (p, old)) h hw hc]
    rfl
  · obtain ⟨hport, hup, hchanged, hscale, hmeasured⟩ := frameEnd_installs (order := order) h hw hc
    rw [show q = p.install from hport]
    exact ⟨⟨rfl, rfl, rfl, rfl, rfl⟩, fun i => Vector.getElem_replicate .., hup, hchanged, hscale, hmeasured⟩
  · have hno : failureDue p.judged = false := by
      rw [← Bool.not_eq_true, hfails]
      exact fun hd => hd.2 hup
    obtain ⟨hstate, hroster, hconfig, hstale⟩ := p.judged_fields
    rw [hq, portEnd_run_up (x := (p, old)) h hno]
    exact ⟨⟨hstate.trans h, hroster, hstale, hconfig⟩, fun i hi => ChainPort.judged_position h hi⟩
  · have hf := hfails.mpr ⟨h, hdown⟩
    have hport := frameEnd_fails_port (order := order) h hf
    have hfailed := frameEnd_fails_raises (order := order) h hf
    obtain ⟨hscale, hmeasured⟩ := frameEnd_fails_limiter (order := order) h hf
    obtain ⟨-, hroster, -, -⟩ := p.judged_fields
    obtain ⟨hfailedState, hstale, hkept, hcount, -⟩ := p.judged.fail_fields
    rw [show q = p.judged.fail from hport]
    refine ⟨⟨hfailedState, hstale, hkept.trans hroster, hcount⟩, fun i => ?_, hfailed, hscale, hmeasured⟩
    obtain ⟨hsilent, hlast⟩ := p.judged.fail_report i
    exact ⟨hsilent, hlast.trans (p.judged_last i)⟩
  · have hdue : recoveryDue p.countHoldoff = true ↔ p.config.recovery = .auto ∧ p.config.holdoff ≤ held :=
      (recoveryDue_iff _).trans (and_iff_right h)
    rw [hq, portEnd_failed (x := (p, old)) h]
    by_cases hd : p.config.recovery = .auto ∧ p.config.holdoff ≤ held
    · rw [if_pos hd]
      rw [holdoffEnd_recovers (x := (p, old)) (hdue.mpr hd)]
      exact ⟨rfl, fun _ => ⟨rfl, rfl⟩, rfl, rfl, rfl, rfl⟩
    · rw [if_neg hd]
      rw [holdoffEnd_waits (x := (p, old)) fun h => hd (hdue.mp h)]
      exact ⟨h, fun hp => absurd (h.symm.trans hp) (by decide), rfl, rfl, rfl, rfl⟩
  · have hno : failureDue p.judged = false := by
      rw [← Bool.not_eq_true, hfails]
      exact fun hd => hd.2 hup
    obtain ⟨hscale, hlimiting, hheavy⟩ := frameEnd_limits (order := order) h hno hm
    have hnext : nextScale (unit c s) =
        if target < old.scale then target else min target (old.scale + p.config.releaseStep) := rfl
    refine ⟨hscale.trans hnext, fun hold hlow => hlimiting ?_, fun hold hlow => hheavy ?_⟩
    · have hlt : target < old.scale := hold ▸ hlow
      rw [hnext, if_pos hlt]
      exact Bool.and_eq_true_iff.mpr ⟨beq_iff_eq.mpr hold, decide_eq_true hlow⟩
    · have hlt : target < old.scale := by omega
      rw [hnext, if_pos hlt]
      exact Bool.and_eq_true_iff.mpr ⟨decide_eq_true hold, decide_eq_true hlow⟩
  · have hno : failureDue p.judged = false := by
      rw [← Bool.not_eq_true, hfails]
      exact fun hd => hd.2 hup
    rw [show new = (limiterEnd (unit c s)).2 from frameEndWork_staysUp h hno, limiterEnd_idle (.inr hm)]
    rfl

end Sys2Proof.Machine
end

section
/-! What comes about at a frame event, as rows: input loss, silence, failure and holdoff (R11, R55–R57). -/

namespace Sys2Proof.Machine

/-! ## Input loss (R11) -/

theorem lossAhead_iff (st : FrameStore) :
    lossAhead st = true ↔
      st.lossActive = false ∧ (∀ p : Fin 3, st.pages[p].role ≠ .latest) ∧ st.holdLimit ≤ min 65535 (st.repeats + 1) := by
  rw [← pageIn_eq_none]
  unfold lossAhead settlePages lossDue
  cases pageIn .latest st.pages with
  | none =>
    have hpos : min 65535 (st.repeats + 1) ≠ 0 := by omega
    simp [hpos]
  | some q => simp

theorem freeRunReady_iff (t : Timing) : freeRunReady t = true ↔ t.ref ≠ .locked ∧ t.phase ≠ .active := by
  simp [freeRunReady]

theorem Position.evaluate_since (q : Position) : q.evaluate.since = q.sinceNext := by
  obtain ⟨-, h, -⟩ := q.evaluate_fields
  exact h

theorem ChainPort.evaluate_kept (p : ChainPort) :
    p.evaluate.state = p.state ∧ p.evaluate.roster = p.roster ∧ p.evaluate.config = p.config := ⟨rfl, rfl, rfl⟩

theorem failureDue_evaluate_iff (p : ChainPort) :
    failureDue p.evaluate = true ↔
      p.state = .run ∧ p.roster ≠ [] ∧ p.config.silentLimit ≤ p.reports[(0 : Fin 16)].sinceNext := by
  obtain ⟨hstate, hrosters, hconfig⟩ := p.evaluate_kept
  rw [failureDue_iff, hstate, hrosters, hconfig]
  refine and_congr_right fun _ => and_congr_right fun hroster => ?_
  have hpos : (0 : Fin 16).val < p.roster.length := by
    rw [Fin.val_zero]
    exact List.length_pos_iff.mpr hroster
  have hsince : p.evaluate.reports[(0 : Fin 16)].since = p.reports[(0 : Fin 16)].sinceNext := by
    rw [ChainPort.evaluate_report, if_pos hpos, Position.evaluate_since]
  rw [hsince]

theorem Limiter.ext_fields {l : Limiter} {scale acc : Nat} {measured : Bool} (hs : l.scale = scale) (ha : l.acc = acc)
    (hm : l.measured = measured) : l = { scale := scale, acc := acc, measured := measured } := by
  cases l
  simp_all

/-! ## A frame end with the start that may be held -/

section
variable {order : FrameEndOrder} {s : State}

theorem exec_outputFrameEnd (hact : s.timing.phase = .active) (order : FrameEndOrder) :
    exec (.outputFrameEnd order) s = .next (frameEnd order s) :=
  congrArg Host.Outcome.next (if_pos hact)

theorem frameEnd_eq (order : FrameEndOrder) (s : State) :
    frameEnd order s =
      if s.timing.held then frameStart (endFrame (frameEndWork order s)) else endFrame (frameEndWork order s) := by
  have hheld : (endFrame (frameEndWork order s)).timing.held = s.timing.held := by
    rw [show (endFrame (frameEndWork order s)).timing.held = (frameEndWork order s).timing.held from rfl,
      frameEndWork_timing]
  unfold frameEnd
  extract_lets ended
  rw [hheld]

theorem frameEnd_has_of {x : Source} (h : (frameEndWork order s).events.has x = true) :
    (frameEnd order s).events.has x = true := by
  rw [frameEnd_eq]
  split
  · exact frameStart_has_of h
  · exact h

theorem frameEnd_port (order : FrameEndOrder) (s : State) (c : Fin 8) :
    (frameEnd order s).ports[c] =
      if s.timing.held then (portEnd (unit c s)).1.frameStart else (portEnd (unit c s)).1 := by
  have hport : (endFrame (frameEndWork order s)).ports[c] = (portEnd (unit c s)).1 := frameEndWork_port order s c
  rw [frameEnd_eq]
  split
  · rw [frameStart_port, hport]
  · exact hport

theorem ChainPort.frameStart_still {p : ChainPort} (h : p.state = .run ∨ p.state = .failed) : p.frameStart = p := by
  unfold ChainPort.frameStart
  obtain h | h := h <;> rw [h]

/-- R60: a port that ends the frame in RUN or FAILED is not changed by a frame start held behind it. -/
theorem frameEnd_port_still {c : Fin 8} {q : ChainPort} (h : (portEnd (unit c s)).1 = q)
    (hq : q.state = .run ∨ q.state = .failed) : (frameEnd order s).ports[c] = q := by
  rw [frameEnd_port, h, ChainPort.frameStart_still hq, ite_self]

theorem frameStart_limiter_still {s : State} {c : Fin 8} (h : s.ports[c].state ≠ .run) :
    (frameStart s).power.limiters[c] = s.power.limiters[c] := by
  rw [frameStart_power, Fin.getElem_fin, Vector.getElem_ofFn, if_neg h]

theorem frameEnd_limiter_still {c : Fin 8} (h : (portEnd (unit c s)).1.state ≠ .run) :
    (frameEnd order s).power.limiters[c] = (frameEndWork order s).power.limiters[c] := by
  have hport : (endFrame (frameEndWork order s)).ports[c] = (portEnd (unit c s)).1 := frameEndWork_port order s c
  have hlimiter : (endFrame (frameEndWork order s)).power.limiters[c] = (frameEndWork order s).power.limiters[c] := rfl
  rw [frameEnd_eq]
  split
  · rw [frameStart_limiter_still (by rw [hport]; exact h), hlimiter]
  · exact hlimiter

end

/-- R55: the marks a frame end counts. -/
theorem ChainPort.judged_silentEvents {p : ChainPort} {i : Fin 16} (h : silentDue p.evaluate i = true) :
    p.judged.silentEvents = p.silentEvents.add ((List.finRange 16).countP (silentDue p.evaluate)) := by
  obtain ⟨-, -, -, hcount, -⟩ := foldl_silence_spec (List.nodup_finRange 16) p.evaluate
  exact hcount (List.countP_pos_iff.mpr ⟨i, List.mem_finRange i, h⟩).ne'

theorem portEnd_run {x : ChainPort × Limiter} (h : x.1.state = .run) :
    (portEnd x).1 = if failureDue x.1.judged then x.1.judged.fail else x.1.judged := by
  cases hf : failureDue x.1.judged with
  | true => rw [portEnd_run_fails h hf, if_pos rfl]
  | false =>
    rw [portEnd_run_up h hf, if_neg (by decide)]

theorem ChainPort.fail_counts (p : ChainPort) (i : Fin 16) :
    p.fail.silentEvents = p.silentEvents ∧ p.fail.reports[i].since = p.reports[i].since := by
  simp [ChainPort.fail]

/-- R55: a port in RUN after a frame end, whether its chain fails or not. -/
theorem portEnd_run_marks {x : ChainPort × Limiter} (h : x.1.state = .run) (i : Fin 16) :
    let q := (portEnd x).1
    (q.state = .run ∨ q.state = .failed) ∧ q.silentEvents = x.1.judged.silentEvents
      ∧ q.reports[i].last = x.1.judged.reports[i].last ∧ q.reports[i].since = x.1.judged.reports[i].since := by
  intro q
  have hq : q = if failureDue x.1.judged then x.1.judged.fail else x.1.judged := portEnd_run h
  obtain ⟨hstate, -⟩ := x.1.judged_fields
  rw [hq]
  generalize x.1.judged = p at hstate ⊢
  split
  · obtain ⟨hcount, hsince⟩ := p.fail_counts i
    obtain ⟨-, hlast⟩ := p.fail_report i
    exact ⟨.inr rfl, hcount, hlast, hsince⟩
  · exact ⟨.inl (hstate.trans h), rfl, rfl, rfl⟩

theorem frameEndWhen_true {s : State} (hact : s.timing.phase = .active) {comes : Bool} (h : comes = true) :
    frameEndWhen comes s = frameEnd (freeOrder s) (nextFree s) := if_pos ⟨hact, h⟩

theorem frameEndWhen_false {s : State} {comes : Bool} (h : comes = false) : frameEndWhen comes s = s :=
  if_neg fun hyes => by simp [h] at hyes

theorem frameEndWhen_idle {s : State} (hact : s.timing.phase ≠ .active) (comes : Bool) : frameEndWhen comes s = s :=
  if_neg fun hyes => hact hyes.1

/-- Settles O45. -/
theorem thresholdEvents : Obligations.ThresholdEvents := by
  refine fun s => ⟨?_, fun hact c => ⟨fun i => ?_, ?_, ?_⟩, fun hact => ?_⟩
  · intro due
    have hdue : due ↔ (freeRunReady s.timing && lossAhead s.store) = true := by
      rw [Bool.and_eq_true, freeRunReady_iff, lossAhead_iff]
      simp only [due]
      tauto
    refine ⟨fun hno => congrArg Host.Outcome.next (if_neg fun h => hno (hdue.mpr h)), fun hyes => ?_⟩
    have hexec : exec .inputLoss s = .next (frameStart s) := congrArg Host.Outcome.next (if_pos (hdue.mp hyes))
    obtain ⟨href, hact, hloss, hpages, hlimit⟩ := hyes
    have hstart : exec .outputFrameStart s = .next (frameStart s) :=
      congrArg Host.Outcome.next (if_pos ((freeRunReady_iff _).mpr ⟨href, hact⟩))
    obtain ⟨hactive, hraised, -⟩ := frameStart_repeats hpages
    have hstore := frameStart_noLatest hpages
    have hrepeats : (frameStart s).store.repeats = min 65535 (s.store.repeats + 1) := by rw [hstore]
    obtain ⟨-, hlink, -⟩ := frameStart_others s
    have hon : (frameStart s).store.lossActive = true := by
      rw [hactive, hrepeats, decide_eq_true hlimit, Bool.or_true]
    refine ⟨hexec.trans hstart.symm, _, hexec, hon, hraised hloss hon, hrepeats, ?_, ?_, hlink⟩
    · rw [frameStart_timing]
    · rw [hstore]
  · exact congrArg Host.Outcome.next (frameEndWhen_idle hact _)
  · exact congrArg Host.Outcome.next (frameEndWhen_idle hact _)
  · exact congrArg Host.Outcome.next (frameEndWhen_idle hact _)
  · refine ⟨freeOrder s, frameEnd (freeOrder s) (nextFree s), exec_outputFrameEnd (s := nextFree s) hact _, fun c => ?_⟩
    intro p q since silent fails recovers
    have hsilent : ∀ i, silent i ↔ silentDue p.evaluate i = true := fun i => (silentDue_evaluate_iff p i).symm
    have hfails : fails ↔ failureDue p.evaluate = true := (failureDue_evaluate_iff p).symm
    have hrecovers : recovers ↔ recoveryDue p.countHoldoff = true := (recoveryDue_iff p.countHoldoff).symm
    have hstill : ∀ r, (portEnd (p, s.power.limiters[c])).1 = r → r.state = .run ∨ r.state = .failed → q = r := fun r hr =>
      frameEnd_port_still (s := nextFree s) hr
    refine ⟨fun i => ⟨fun hno => ?_, fun hyes => ?_⟩, fun hno => ?_, fun hyes => ?_, fun hno => ?_, fun hyes => ?_⟩
    · rw [hsilent, Bool.not_eq_true] at hno
      exact congrArg Host.Outcome.next (frameEndWhen_false hno)
    · have hrun : p.state = .run := hyes.1
      have hdue := (hsilent i).mp hyes
      obtain ⟨hstate, hcount, hlast, hsince⟩ := portEnd_run_marks (x := (p, s.power.limiters[c])) hrun i
      obtain ⟨-, hjudgedSince, -, hjudgedSilent⟩ := ChainPort.judged_position hrun hyes.2.2.1
      rw [hstill _ rfl hstate]
      refine ⟨congrArg Host.Outcome.next (frameEndWhen_true hact hdue), ?_, ?_, hlast.trans (p.judged_last i),
        hsince.trans hjudgedSince, fun hnot => ?_⟩
      · refine frameEnd_has_of (frameEndWork_has_of_port (c := c)
          (cond := fun p => p.state = .run ∧ silentDue p.evaluate i = true)
          (fun _ ⟨hs, hi⟩ => portFrameEnd_tileSilent hs hi) ?_)
        exact ⟨hrun, hdue⟩
      · rw [hcount, ChainPort.judged_silentEvents hdue]
        refine congrArg p.silentEvents.add (List.countP_congr fun j _ => ?_)
        rw [decide_eq_true_eq]
        exact (hsilent j).symm
      · have hup : failureDue p.judged = false := by
          rw [← Bool.not_eq_true, failureDue_judged_iff]
          exact hnot
        rw [portEnd_run_up (x := (p, s.power.limiters[c])) hrun hup]
        exact hjudgedSilent.mpr (.inr ⟨hyes.2.1, hyes.2.2.2.1⟩)
    · rw [hfails, Bool.not_eq_true] at hno
      exact congrArg Host.Outcome.next (frameEndWhen_false hno)
    · have hrun : p.state = .run := hyes.1
      have hdue : failureDue p.judged = true := (failureDue_judged_iff p).mpr hyes
      have hend := portEnd_fails (s := s) (c := c) hrun hdue s.power.limiters[c]
      obtain ⟨hstate, hstale, hroster, hcount, hconfig⟩ := p.judged.fail_fields
      obtain ⟨-, hjudgedRoster, hjudgedConfig, -⟩ := p.judged_fields
      have hq : q = p.judged.fail := hstill _ (congrArg Prod.fst hend) (.inr hstate)
      obtain ⟨hscale, hmeasured⟩ := frameEnd_fails_limiter (order := freeOrder s) (s := nextFree s) (c := c) hrun hdue
      have hacc := frameEndWork_acc (freeOrder s) (nextFree s) c
      rw [hq]
      refine ⟨congrArg Host.Outcome.next (frameEndWhen_true hact (hfails.mp hyes)),
        frameEnd_has_of (frameEnd_fails_raises (c := c) (s := nextFree s) hrun hdue), hstate, hstale, hroster.trans hjudgedRoster,
        hconfig.trans hjudgedConfig, hcount, fun i => ?_, ?_⟩
      · obtain ⟨hsilentOff, hlast⟩ := p.judged.fail_report i
        exact ⟨hsilentOff, hlast.trans (p.judged_last i)⟩
      · have hnotRun : (portEnd (unit c (nextFree s))).1.state ≠ .run := by
          rw [show portEnd (unit c (nextFree s)) = _ from hend, hstate]
          decide
        rw [frameEnd_limiter_still hnotRun]
        exact Limiter.ext_fields hscale hacc hmeasured
    · rw [hrecovers, Bool.not_eq_true] at hno
      exact congrArg Host.Outcome.next (frameEndWhen_false hno)
    · have hfailed : p.state = .failed := hyes.1
      have hend : (portEnd (p, s.power.limiters[c])).1 =
          { p.countHoldoff with state := .probe, newlyEnabled := false, windowOpen := false } := by
        rw [portEnd_failed (x := (p, s.power.limiters[c])) hfailed]
        exact holdoffEnd_recovers (x := (p, s.power.limiters[c])) (hrecovers.mp hyes)
      have hport : q = if s.timing.held then (portEnd (p, s.power.limiters[c])).1.frameStart
          else (portEnd (p, s.power.limiters[c])).1 := frameEnd_port (freeOrder s) (nextFree s) c
      refine ⟨congrArg Host.Outcome.next (frameEndWhen_true hact (hrecovers.mp hyes)), ?_⟩
      rw [hport, hend]
      cases s.timing.held <;> rfl

end Sys2Proof.Machine
end

section
/-! The thermal zones over an output frame end (R98–R106). -/

namespace Sys2Proof.Machine

/-! ## Temperature (R99) -/

/-- R99: a zone's effective temperature, by what it rests on. -/
def zoneTemp (ports : Vector ChainPort 8) (l : FrameLatch) (cfg : ThermalConfig) (z : Fin 16) : Option Int :=
  (((List.finRange 128).filter (isMember l z)).map fun slot =>
    contribution cfg.warnHigh (ports[slotChain slot]).reports[slotPosition slot]).foldl maxTemp none

theorem effectiveTemp_eq (s : State) (z : Fin 16) : effectiveTemp s z = zoneTemp s.ports s.comp s.thermal.config z := rfl

theorem foldl_maxTemp_spec (es : List (Option Int)) (e : Option Int) :
    (∀ x, es.foldl maxTemp e = some x → (some x ∈ es ∨ e = some x)
        ∧ (∀ y, some y ∈ es → y ≤ x) ∧ ∀ y, e = some y → y ≤ x)
      ∧ (es.foldl maxTemp e = none → (∀ y, some y ∉ es) ∧ e = none) := by
  induction es generalizing e with
  | nil => exact ⟨fun x h => ⟨.inr h, by simp, fun y hy => le_of_eq (Option.some.inj (hy.symm.trans h))⟩,
      fun h => ⟨by simp, h⟩⟩
  | cons a es ih =>
    obtain ⟨hsome, hnone⟩ := ih (maxTemp e a)
    rw [List.foldl_cons]
    refine ⟨fun x hx => ?_, fun hx => ?_⟩
    · obtain ⟨hmem, hle, hstart⟩ := hsome x hx
      cases e with
      | none =>
        have ha : maxTemp none a = a := by cases a <;> rfl
        rw [ha] at hmem hstart
        refine ⟨.inl ?_, fun y hy => ?_, by simp⟩
        · exact hmem.elim (List.mem_cons_of_mem a) fun h => h ▸ List.mem_cons_self
        · exact (List.mem_cons.mp hy).elim (fun h => hstart y h.symm) (hle y)
      | some b =>
        cases a with
        | none =>
          refine ⟨hmem.imp_left (List.mem_cons_of_mem none), fun y hy => ?_, hstart⟩
          exact (List.mem_cons.mp hy).elim (fun h => by simp at h) (hle y)
        | some a =>
          have hmax : max b a ≤ x := hstart _ rfl
          refine ⟨?_, fun y hy => ?_, fun y hy => ?_⟩
          · obtain hmem | hmem := hmem
            · exact .inl (List.mem_cons_of_mem _ hmem)
            · obtain rfl : max b a = x := Option.some.inj hmem
              obtain h | h := max_choice b a <;> rw [h]
              · exact .inr rfl
              · exact .inl List.mem_cons_self
          · obtain h | h := List.mem_cons.mp hy
            · exact (Option.some.inj h).le.trans ((le_max_right b a).trans hmax)
            · exact hle y h
          · exact (Option.some.inj hy).ge.trans ((le_max_left b a).trans hmax)
    · obtain ⟨hno, hstart⟩ := hnone hx
      cases e with
      | none =>
        have ha : maxTemp none a = a := by cases a <;> rfl
        rw [ha] at hstart
        refine ⟨fun y hy => (List.mem_cons.mp hy).elim (fun h => by simp [hstart] at h) (hno y), rfl⟩
      | some b => cases a <;> simp [maxTemp] at hstart

theorem contribution_eq_some_iff (warnHigh : Int) (q : Position) (x : Int) :
    contribution warnHigh q = some x ↔
      if q.silent = true then x = warnHigh
      else ∃ r, q.last = some r ∧ (r.reading = some x ∨ r.reading = none ∧ x = warnHigh) := by
  unfold contribution
  split
  · rw [Option.some_inj, eq_comm]
  · cases q.last with
    | none => simp
    | some r => cases hr : r.reading <;> simp [eq_comm, hr]

theorem isMember_iff (l : FrameLatch) (z : Fin 16) (slot : Fin 128) :
    isMember l z slot = true ↔
      (l.status[slot] = .mapped ∨ l.status[slot] = .mismatch) ∧ l.look.tiles[slot].zone = z.val := by
  simp only [isMember, Bool.and_eq_true, Bool.or_eq_true, beq_iff_eq]

/-- R99, Table 6-3: a zone's temperature is the highest a member gives. -/
theorem zoneTemp_spec (ports : Vector ChainPort 8) (l : FrameLatch) (cfg : ThermalConfig) (z : Fin 16) :
    (∀ x, zoneTemp ports l cfg z = some x →
        (∃ slot, isMember l z slot = true
          ∧ contribution cfg.warnHigh (ports[slotChain slot]).reports[slotPosition slot] = some x)
        ∧ ∀ slot y, isMember l z slot = true →
          contribution cfg.warnHigh (ports[slotChain slot]).reports[slotPosition slot] = some y → y ≤ x)
      ∧ (zoneTemp ports l cfg z = none → ∀ slot y, isMember l z slot = true →
          contribution cfg.warnHigh (ports[slotChain slot]).reports[slotPosition slot] ≠ some y) := by
  obtain ⟨hsome, hnone⟩ := foldl_maxTemp_spec (((List.finRange 128).filter (isMember l z)).map fun slot =>
    contribution cfg.warnHigh (ports[slotChain slot]).reports[slotPosition slot]) none
  have hmem : ∀ slot y, isMember l z slot = true →
      contribution cfg.warnHigh (ports[slotChain slot]).reports[slotPosition slot] = some y →
      some y ∈ ((List.finRange 128).filter (isMember l z)).map fun slot =>
        contribution cfg.warnHigh (ports[slotChain slot]).reports[slotPosition slot] := fun slot y hslot hy =>
    List.mem_map.mpr ⟨slot, List.mem_filter.mpr ⟨List.mem_finRange slot, hslot⟩, hy⟩
  refine ⟨fun x hx => ?_, fun hx slot y hslot hy => ?_⟩
  · obtain ⟨hin, hle, -⟩ := hsome x hx
    obtain ⟨slot, hslot, hgives⟩ := List.mem_map.mp (hin.resolve_right (by simp))
    exact ⟨⟨slot, (List.mem_filter.mp hslot).2, hgives⟩, fun slot y hslot hy => hle y (hmem slot y hslot hy)⟩
  · exact (hnone hx).1 y (hmem slot y hslot hy)

/-! ## One zone's evaluation (R101–R104) -/

/-- A zone record but for its scale. -/
def Zone.bare (r : Zone) : Zone := { r with scale := 0 }

/-- R102–R104: a counted zone after its one move. -/
def Zone.settled (cfg : ThermalConfig) (r : Zone) : Zone :=
  match upTarget cfg.deglitch r with
  | some .warm => { r with state := .warm, down := 0 }
  | some .hot => { r with state := .hot, down := 0 }
  | some .shutdown => { r with state := .shutdown, down := 0 }
  | some .normal => r
  | none =>
    match downTarget cfg r with
    | some st => { r with state := st, down := 0 }
    | none => r

/-- What one zone's evaluation rests on, with the zone's record but for its scale. -/
structure ZoneView where
  ports : Vector ChainPort 8
  comp : FrameLatch
  config : ThermalConfig
  zone : Zone

def zoneView (z : Fin 16) (s : State) : ZoneView :=
  { ports := s.ports, comp := s.comp, config := s.thermal.config, zone := s.thermal.zones[z].bare }

/-- R98, R99, R101, R103: a zone counted at an evaluation, before its move. -/
def ZoneView.counted (v : ZoneView) (z : Fin 16) : Zone :=
  v.zone.count v.config ((List.finRange 128).filter (isMember v.comp z)).length (zoneTemp v.ports v.comp v.config z)

/-- R98–R104: the same after the zone's evaluation. -/
def ZoneView.evaluated (z : Fin 16) (v : ZoneView) : ZoneView := { v with zone := (v.counted z).settled v.config }

section
variable (z : Fin 16) (s : State)

theorem zoneView_raise (e : Source) : zoneView z (raise e s) = zoneView z s := by simp [zoneView]

theorem zoneView_countFrame : zoneView z (countFrame s) = zoneView z s := by simp [zoneView]

theorem zoneView_modifyZone (f : Zone → Zone) :
    zoneView z (s.modifyZone z f) = ⟨s.ports, s.comp, s.thermal.config, (f s.thermal.zones[z]).bare⟩ := by
  simp [zoneView]

theorem zoneView_modifyZone_other {d : Fin 16} (h : z ≠ d) (f : Zone → Zone) :
    zoneView d (s.modifyZone z f) = zoneView d s := by
  simp [zoneView, show d.val ≠ z.val from fun he => h (Fin.ext he.symm)]

theorem zoneView_blackOut (d : Fin 16) : zoneView d (blackOut z s) = zoneView d s := by
  unfold blackOut
  split
  · by_cases h : z = d
    · subst h
      rw [zoneView_modifyZone]
      rfl
    · exact zoneView_modifyZone_other z s h _
  · simp [zoneView, Zone.bare]

theorem zoneView_moveScales : zoneView z (moveScales s) = zoneView z s := by
  simp [zoneView, moveScales, setScales, Zone.bare]

theorem Zone.settled_bare (cfg : ThermalConfig) (r : Zone) : (r.settled cfg).bare = r.bare.settled cfg := by
  have hup : upTarget cfg.deglitch r.bare = upTarget cfg.deglitch r := rfl
  have hdown : downTarget cfg r.bare = downTarget cfg r := rfl
  unfold Zone.settled
  rw [hup, hdown]
  split
  · rfl
  · rfl
  · rfl
  · rfl
  · split <;> rfl

theorem zoneView_settleZone :
    zoneView z (settleZone z s) =
      ⟨s.ports, s.comp, s.thermal.config, (s.thermal.zones[z].settled s.thermal.config).bare⟩ := by
  unfold settleZone
  cases hup : upTarget s.thermal.config.deglitch s.thermal.zones[z] with
  | some st =>
    simp only [Zone.settled, hup]
    cases st with
    | normal => rfl
    | warm => rw [enterWarm, zoneView_raise, moveZone, zoneView_modifyZone]
    | hot => rw [enterHot, zoneView_raise, moveZone, zoneView_modifyZone]
    | shutdown => rw [enterShutdown, zoneView_raise, zoneView_blackOut, moveZone, zoneView_modifyZone]
  | none =>
    cases hdown : downTarget s.thermal.config s.thermal.zones[z] with
    | some st =>
      simp only [Zone.settled, hup, moveDown, hdown]
      rw [moveZone, zoneView_modifyZone]
    | none =>
      simp only [Zone.settled, hup, moveDown, hdown]
      rfl

theorem zoneView_settleZone_other {d : Fin 16} (h : z ≠ d) : zoneView d (settleZone z s) = zoneView d s := by
  unfold settleZone
  split
  · rw [enterWarm, zoneView_raise, moveZone, zoneView_modifyZone_other z s h]
  · rw [enterHot, zoneView_raise, moveZone, zoneView_modifyZone_other z s h]
  · rw [enterShutdown, zoneView_raise, zoneView_blackOut, moveZone, zoneView_modifyZone_other z s h]
  · rfl
  · unfold moveDown
    split
    · exact zoneView_modifyZone_other z s h _
    · rfl

theorem Zone.count_bare (cfg : ThermalConfig) (members : Nat) (e : Option Int) (r : Zone) :
    (r.count cfg members e).bare = r.bare.count cfg members e := rfl

/-- R98–R104: a zone counted at an evaluation, before its move. -/
def countedZone (s : State) (z : Fin 16) : Zone :=
  s.thermal.zones[z].count s.thermal.config (membersOf s z).length (effectiveTemp s z)

/-- The state in which a zone makes its move. -/
theorem evaluateZone_eq : evaluateZone z s = settleZone z (s.modifyZone z fun _ => countedZone s z) := rfl

theorem modifyZone_self (r : Zone) : (s.modifyZone z fun _ => r).thermal.zones[z] = r := by simp

theorem zoneView_evaluateZone : zoneView z (evaluateZone z s) = (zoneView z s).evaluated z := by
  rw [evaluateZone_eq, zoneView_settleZone, Zone.settled_bare, modifyZone_self]
  rfl

theorem zoneView_evaluateZone_other {d : Fin 16} (h : z ≠ d) : zoneView d (evaluateZone z s) = zoneView d s := by
  rw [evaluateZone, zoneView_settleZone_other z _ h, zoneView_modifyZone_other z s h]

end

/-- The zone record an evaluation makes, but for its scale. -/
theorem evaluated_zone (z : Fin 16) (s : State) :
    ((zoneView z s).evaluated z).zone = ((countedZone s z).settled s.thermal.config).bare :=
  (Zone.settled_bare s.thermal.config (countedZone s z)).symm

/-! ## What an evaluation raises (R102) -/

/-- The event of an upward move. -/
def upEvent : ZoneState → Option Source
  | .normal => none
  | .warm => some .zoneWarm
  | .hot => some .zoneHot
  | .shutdown => some .zoneShutdown

theorem settleZone_raises {z : Fin 16} {s : State} {st : ZoneState} {e : Source}
    (h : upTarget s.thermal.config.deglitch s.thermal.zones[z] = some st) (he : upEvent st = some e) :
    (settleZone z s).events.has e = true := by
  unfold settleZone
  rw [h]
  cases st with
  | normal => simp [upEvent] at he
  | warm => obtain rfl := Option.some.inj he; exact raise_has _ _
  | hot => obtain rfl := Option.some.inj he; exact raise_has _ _
  | shutdown => obtain rfl := Option.some.inj he; exact raise_has _ _

theorem evaluateZone_raises {z : Fin 16} {s : State} {st : ZoneState} {e : Source}
    (h : upTarget s.thermal.config.deglitch ((zoneView z s).counted z) = some st) (he : upEvent st = some e) :
    (evaluateZone z s).events.has e = true := by
  rw [evaluateZone_eq]
  refine settleZone_raises ?_ he
  rw [modifyZone_self]
  exact h

theorem evaluateZone_has_of {z : Fin 16} {s : State} {e : Source} (h : s.events.has e = true) :
    (evaluateZone z s).events.has e = true :=
  evaluateZone_keeps (P := fun s => s.events.has e = true) (fun e _ => raise_has_of e) (fun _ _ _ h => h) z h

/-! ## The scales (R105, R106) -/

theorem blackOut_scale (z d : Fin 16) (s : State) :
    (blackOut z s).thermal.zones[d].scale = s.thermal.zones[d].scale
      ∨ (blackOut z s).thermal.zones[d].scale = 0 ∧ (z = d ∨ s.thermal.config.response = .global) := by
  unfold blackOut
  split
  · by_cases h : z = d
    · exact .inr ⟨by simp [h], .inl h⟩
    · exact .inl (by simp [show d.val ≠ z.val from fun he => h (Fin.ext he.symm)])
  · next h => exact .inr ⟨by simp, .inr h⟩

theorem moveZone_scale (z d : Fin 16) (st : ZoneState) (s : State) :
    (moveZone z st s).thermal.zones[d].scale = s.thermal.zones[d].scale := by
  rw [moveZone, State.modifyZone_thermal]
  dsimp only
  rw [Fin.getElem_fin, modifyAt_getElem]
  split
  · next h =>
    obtain rfl : d = z := Fin.ext h
    rfl
  · rfl

/-- R102, R105, R106: an evaluation moves no scale but of zones it takes out of light. -/
theorem settleZone_scale (z d : Fin 16) (s : State) :
    (settleZone z s).thermal.zones[d].scale = s.thermal.zones[d].scale
      ∨ (settleZone z s).thermal.zones[d].scale = 0
        ∧ (s.thermal.zones[z].settled s.thermal.config).state = .shutdown
        ∧ (z = d ∨ s.thermal.config.response = .global) := by
  have hmove := moveZone_scale z d
  unfold settleZone
  cases hup : upTarget s.thermal.config.deglitch s.thermal.zones[z] with
  | some st =>
    cases st with
    | normal => exact .inl rfl
    | warm => exact .inl (by simp only [enterWarm, raise_thermal, hmove])
    | hot => exact .inl (by simp only [enterHot, raise_thermal, hmove])
    | shutdown =>
      simp only [enterShutdown, raise_thermal]
      obtain h | ⟨hzero, hwhy⟩ := blackOut_scale z d (moveZone z .shutdown s)
      · exact .inl (h.trans (hmove _ s))
      · exact .inr ⟨hzero, by simp only [Zone.settled, hup], hwhy⟩
  | none =>
    refine .inl ?_
    unfold moveDown
    dsimp only
    split
    · exact hmove _ s
    · rfl

theorem evaluateZone_scale (z d : Fin 16) (s : State) :
    (evaluateZone z s).thermal.zones[d].scale = s.thermal.zones[d].scale
      ∨ (evaluateZone z s).thermal.zones[d].scale = 0
        ∧ ((zoneView z s).evaluated z).zone.state = .shutdown ∧ (z = d ∨ s.thermal.config.response = .global) := by
  have hcount : (s.modifyZone z fun _ => countedZone s z).thermal.zones[d].scale = s.thermal.zones[d].scale := by
    rw [State.modifyZone_thermal]
    dsimp only
    rw [Fin.getElem_fin, modifyAt_getElem]
    split
    · next h =>
      obtain rfl : d = z := Fin.ext h
      rfl
    · rfl
  rw [evaluateZone_eq]
  obtain h | ⟨hzero, hstate, hwhy⟩ := settleZone_scale z d (s.modifyZone z fun _ => countedZone s z)
  · exact .inl (h.trans hcount)
  · refine .inr ⟨hzero, ?_, hwhy⟩
    rw [modifyZone_self] at hstate
    rw [evaluated_zone]
    exact hstate

theorem anyShutdown_setScales (t : Thermal) : anyShutdown (setScales t).zones = anyShutdown t.zones := by
  rw [Bool.eq_iff_iff, anyShutdown_iff, anyShutdown_iff]
  simp [setScales]

theorem setScales_scale (t : Thermal) (z : Fin 16) :
    (setScales t).zones[z].scale =
      moveScale t.zones[z].scale (scaleTarget (setScales t) (setScales t).zones[z]) (setScales t).config.recoveryStep := by
  have htarget : scaleTarget (setScales t) (setScales t).zones[z] = scaleTarget t t.zones[z] := by
    unfold scaleTarget
    rw [anyShutdown_setScales]
    simp [setScales]
  rw [htarget]
  simp [setScales]

/-! ## The thermal block's work (R98–R106) -/

theorem foldl_units_invariant {α : Type} {n : Nat} {step : EndWork → Fin n → EndWork} {π : Fin n → State → α}
    {I : State → Prop} {u : State} (hother : ∀ w c d, c ≠ d → π d (step w c).state = π d w.state)
    (hstep : ∀ w c, π c w.state = π c u → I w.state → I (step w c).state) {cs : List (Fin n)} (hn : cs.Nodup)
    {w : EndWork} (hw : ∀ c ∈ cs, π c w.state = π c u) (h : I w.state) : I (cs.foldl step w).state := by
  induction cs generalizing w with
  | nil => exact h
  | cons c cs ih =>
    obtain ⟨hc, hn⟩ := List.nodup_cons.mp hn
    rw [List.foldl_cons]
    refine ih hn (fun d hd => ?_) (hstep w c (hw c List.mem_cons_self) h)
    rw [hother w c d fun he => hc (he ▸ hd)]
    exact hw d (List.mem_cons_of_mem c hd)

/-- One zone's evaluation as a step of the frame end. -/
def zoneStep (w : EndWork) (z : Fin 16) : EndWork := w.act (evaluateZone z)

theorem thermalFrameEnd_eq (w : EndWork) :
    thermalFrameEnd w = ((List.finRange 16).foldl zoneStep w).act moveScales :=
  congrArg (EndWork.act · moveScales) (EndWork.actAll_map w evaluateZone _)

section
variable (w : EndWork) (z : Fin 16)

theorem zoneView_zoneStep : zoneView z (zoneStep w z).state = (zoneView z w.state).evaluated z :=
  EndWork.act_project (π := zoneView z) (zoneView_countFrame z) (zoneView_evaluateZone z) w

theorem zoneView_zoneStep_other {d : Fin 16} (h : z ≠ d) : zoneView d (zoneStep w z).state = zoneView d w.state :=
  EndWork.act_project (π := zoneView d) (g := id) (zoneView_countFrame d)
    (fun s => zoneView_evaluateZone_other z s h) w

theorem zoneView_zones : zoneView z ((List.finRange 16).foldl zoneStep w).state = (zoneView z w.state).evaluated z :=
  foldl_units (g := fun z => ZoneView.evaluated z) zoneView_zoneStep (fun w c _ h => zoneView_zoneStep_other w c h) z w

theorem zoneView_thermalFrameEnd : zoneView z (thermalFrameEnd w).state = (zoneView z w.state).evaluated z := by
  rw [thermalFrameEnd_eq, EndWork.act_project (π := zoneView z) (g := id) (zoneView_countFrame z)
    (zoneView_moveScales z)]
  exact zoneView_zones w z

/-- R106: a scale set to 0 within the evaluation, by a zone that ends it in SHUTDOWN. -/
def ScaleLost (w : EndWork) (d : Fin 16) : Prop :=
  ∃ y, ((zoneView y w.state).evaluated y).zone.state = .shutdown ∧ (y = d ∨ w.state.thermal.config.response = .global)

theorem zones_scale :
    ((List.finRange 16).foldl zoneStep w).state.thermal.zones[z].scale = w.state.thermal.zones[z].scale
      ∨ ((List.finRange 16).foldl zoneStep w).state.thermal.zones[z].scale = 0 ∧ ScaleLost w z := by
  have hinv := foldl_units_invariant (step := zoneStep) (π := zoneView) (u := w.state) (w := w)
    (I := fun s => s.thermal.zones[z].scale = w.state.thermal.zones[z].scale
      ∨ s.thermal.zones[z].scale = 0 ∧ ScaleLost w z)
    (fun w c _ h => zoneView_zoneStep_other w c h) (fun v y hy hv => ?_) (List.nodup_finRange 16) (fun _ _ => rfl)
    (.inl rfl)
  · exact hinv
  · refine EndWork.act_reach (P := fun s => s.thermal.zones[z].scale = w.state.thermal.zones[z].scale
      ∨ s.thermal.zones[z].scale = 0 ∧ ScaleLost w z) (Q := fun s => zoneView y s = zoneView y w.state
      ∧ (s.thermal.zones[z].scale = w.state.thermal.zones[z].scale
        ∨ s.thermal.zones[z].scale = 0 ∧ ScaleLost w z)) ⟨hy, hv⟩ (fun s hs => ?_) (fun s hs => ?_)
    · obtain ⟨hview, hs⟩ := hs
      obtain h | ⟨hzero, hstate, hwhy⟩ := evaluateZone_scale y z s
      · rw [h]
        exact hs
      · have hconfig : s.thermal.config = w.state.thermal.config := congrArg ZoneView.config hview
        rw [hview] at hstate
        rw [hconfig] at hwhy
        exact .inr ⟨hzero, y, hstate, hwhy⟩
    · rw [zoneView_countFrame, countFrame_thermal]
      exact hs

theorem thermalFrameEnd_scale :
    let t := (thermalFrameEnd w).state
    ∃ x, t.thermal.zones[z].scale = moveScale x (scaleTarget t.thermal t.thermal.zones[z]) t.thermal.config.recoveryStep
      ∧ (x = w.state.thermal.zones[z].scale
        ∨ x = 0 ∧ ∃ y : Fin 16, t.thermal.zones[y].state = .shutdown ∧ (y = z ∨ t.thermal.config.response = .global)) := by
  intro t
  generalize hv : (List.finRange 16).foldl zoneStep w = v
  have ht : t.thermal = setScales v.state.thermal := by
    rw [← hv]
    simp only [t, thermalFrameEnd_eq]
    exact EndWork.act_project (π := State.thermal) (g := setScales) countFrame_thermal (fun _ => rfl) _
  have hview : ∀ y, t.thermal.zones[y].state = ((zoneView y w.state).evaluated y).zone.state := fun y =>
    congrArg (fun v : ZoneView => v.zone.state) (zoneView_thermalFrameEnd w y)
  have hconfig : t.thermal.config = w.state.thermal.config := congrArg ZoneView.config (zoneView_thermalFrameEnd w z)
  have hshut : ScaleLost w z → ∃ y : Fin 16, t.thermal.zones[y].state = .shutdown
      ∧ (y = z ∨ t.thermal.config.response = .global) := fun ⟨y, hy, hwhy⟩ =>
    ⟨y, (hview y).trans hy, by rw [hconfig]; exact hwhy⟩
  have hscale := zones_scale w z
  rw [hv] at hscale
  refine ⟨v.state.thermal.zones[z].scale, ?_, hscale.imp_right fun h => ⟨h.1, hshut h.2⟩⟩
  rw [ht, setScales_scale]

end

end Sys2Proof.Machine
end

section
/-! The zones over a whole output frame end, and the rows that stand for their moves (R98–R106). -/

namespace Sys2Proof.Machine

/-! ## The thermal block's place in a frame end (R100) -/

/-- What the thermal block works on, but for the ports. -/
def zoneGround (s : State) : FrameLatch × Thermal := (s.comp, s.thermal)

theorem zoneGround_eq_iff {s t : State} : zoneGround t = zoneGround s ↔ t.comp = s.comp ∧ t.thermal = s.thermal :=
  Prod.mk_inj

theorem zoneGround_raise (e : Source) (s : State) : zoneGround (raise e s) = zoneGround s := by simp [zoneGround]

theorem zoneGround_countFrame (s : State) : zoneGround (countFrame s) = zoneGround s := by simp [zoneGround]

section
variable (order : FrameEndOrder) (s : State) (w : EndWork)

theorem zoneGround_checkedWork :
    zoneGround (checkedWork order s).state = zoneGround s ∧ (checkedWork order s).state.ports = s.ports := by
  have hstart : zoneGround ({ state := s, left := some order.countAt } : EndWork).state = zoneGround s
      ∧ ({ state := s, left := some order.countAt } : EndWork).state.ports = s.ports := ⟨rfl, rfl⟩
  unfold checkedWork
  refine checked_keepsRest (P := fun t => zoneGround t = zoneGround s ∧ t.ports = s.ports) (fun e t h => ?_)
    (fun _ _ _ _ _ _ h => h) (fun t h => ?_) hstart
  · rw [zoneGround_raise, raise_ports]
    exact h
  · rw [zoneGround_countFrame, countFrame_ports]
    exact h

theorem zoneGround_portsFrameEnd : zoneGround (portsFrameEnd w).state = zoneGround w.state :=
  portsFrameEnd_keeps (P := fun t => zoneGround t = zoneGround w.state) (fun e t h => (zoneGround_raise e t).trans h)
    (fun t h => (zoneGround_countFrame t).trans h) (fun _ _ _ _ h => h) rfl

theorem zoneGround_powerFrameEnd :
    zoneGround (powerFrameEnd w).state = zoneGround w.state ∧ (powerFrameEnd w).state.ports = w.state.ports := by
  refine powerFrameEnd_keeps (P := fun t => zoneGround t = zoneGround w.state ∧ t.ports = w.state.ports)
    (fun e t h => ?_) (fun t h => ?_) (fun _ _ h => h) ⟨rfl, rfl⟩
  · rw [zoneGround_raise, raise_ports]
    exact h
  · rw [zoneGround_countFrame, countFrame_ports]
    exact h

theorem thermalFrameEnd_ports : (thermalFrameEnd w).state.ports = w.state.ports :=
  thermalFrameEnd_keeps (P := fun t => t.ports = w.state.ports) (fun e t h => (raise_ports e t).trans h)
    (fun t h => (countFrame_ports t).trans h) (fun _ _ _ h => h) rfl

/-- R100: the work of a frame end before the thermal block, with the ports as they stand before or after their
evaluation. -/
theorem frameEndWork_thermal :
    ∃ w : EndWork, zoneGround w.state = zoneGround s
      ∧ w.state.ports = (if order.thermalFirst then s.ports else (frameEndWork order s).ports)
      ∧ (frameEndWork order s).thermal = (thermalFrameEnd w).state.thermal
      ∧ ∀ e, (thermalFrameEnd w).state.events.has e = true → (frameEndWork order s).events.has e = true := by
  obtain ⟨hground, hports⟩ := zoneGround_checkedWork order s
  have hthermal : (frameEndWork order s).thermal = (blocksFrameEnd order (checkedWork order s)).state.thermal :=
    frameEndWork_project (π := State.thermal) countFrame_thermal (fun _ => rfl) order s
  have hend : (frameEndWork order s).ports = (blocksFrameEnd order (checkedWork order s)).state.ports :=
    frameEndWork_project (π := State.ports) countFrame_ports (fun _ => rfl) order s
  have hhas : ∀ e, (blocksFrameEnd order (checkedWork order s)).state.events.has e = true →
      (frameEndWork order s).events.has e = true := fun e => frameEndWork_has_of_blocks
  have hlater : ∀ w : EndWork, (portsFrameEnd w).state.thermal = w.state.thermal
      ∧ (powerFrameEnd w).state.thermal = w.state.thermal := fun w =>
    ⟨(zoneGround_eq_iff.mp (zoneGround_portsFrameEnd w)).2, (zoneGround_eq_iff.mp (zoneGround_powerFrameEnd w).1).2⟩
  rw [hthermal, hend]
  rw [blocksFrameEnd_eq] at hhas ⊢
  generalize checkedWork order s = b at hground hports hhas ⊢
  obtain ⟨hpower, hpowerPorts⟩ := zoneGround_powerFrameEnd b
  cases hp : order.powerFirst <;> cases ht : order.thermalFirst <;>
    simp only [hp, ht, if_true, if_false, Bool.false_eq_true] at hhas ⊢
  · refine ⟨portsFrameEnd b, ?_, ?_, ?_, fun e h => hhas e (powerFrameEnd_has_of h)⟩
    · rw [zoneGround_portsFrameEnd, hground]
    · rw [(zoneGround_powerFrameEnd _).2, thermalFrameEnd_ports]
    · rw [(hlater _).2]
  · refine ⟨b, hground, hports, ?_, fun e h => hhas e (powerFrameEnd_has_of (portsFrameEnd_has_of h))⟩
    rw [(hlater _).2, (hlater _).1]
  · refine ⟨portsFrameEnd (powerFrameEnd b), ?_, ?_, rfl, hhas⟩
    · rw [zoneGround_portsFrameEnd, hpower, hground]
    · rw [thermalFrameEnd_ports]
  · refine ⟨powerFrameEnd b, ?_, ?_, ?_, fun e h => hhas e (portsFrameEnd_has_of h)⟩
    · rw [hpower, hground]
    · rw [hpowerPorts, hports]
    · rw [(hlater _).1]

end

/-! ## A zone over a frame end -/

section
variable (order : FrameEndOrder) (s : State) (z : Fin 16)

/-- R98, R99, R100, R101, R103: a zone counted at a frame end, before its move. -/
def zoneCounted : Zone :=
  s.thermal.zones[z].count s.thermal.config (membersOf s z).length
    (if order.thermalFirst then effectiveTemp s z else effectiveTemp { s with ports := (frameEndWork order s).ports } z)

theorem counted_eq {w : EndWork} (hground : zoneGround w.state = zoneGround s)
    (hports : w.state.ports = if order.thermalFirst then s.ports else (frameEndWork order s).ports) :
    (zoneView z w.state).counted z = (zoneCounted order s z).bare := by
  obtain ⟨hcomp, hthermal⟩ := zoneGround_eq_iff.mp hground
  rw [ZoneView.counted, zoneView, zoneCounted, Zone.count_bare, hcomp, hthermal, hports]
  dsimp only
  rw [effectiveTemp_eq, effectiveTemp_eq]
  cases order.thermalFirst <;> rfl

/-- R98–R104: a zone after a frame end, but for its scale. -/
theorem frameEndWork_zone :
    (frameEndWork order s).thermal.zones[z].bare = ((zoneCounted order s z).settled s.thermal.config).bare := by
  obtain ⟨w, hground, hports, hthermal, -⟩ := frameEndWork_thermal order s
  have hconfig : w.state.thermal.config = s.thermal.config := congrArg Thermal.config (zoneGround_eq_iff.mp hground).2
  have hview : (thermalFrameEnd w).state.thermal.zones[z].bare = ((zoneView z w.state).evaluated z).zone :=
    congrArg ZoneView.zone (zoneView_thermalFrameEnd w z)
  have hzone : ((zoneView z w.state).evaluated z).zone
      = ((zoneView z w.state).counted z).settled w.state.thermal.config := rfl
  rw [hthermal, hview, hzone, counted_eq order s z hground hports, hconfig, Zone.settled_bare]

theorem frameEndWork_thermalConfig : (frameEndWork order s).thermal.config = s.thermal.config := by
  obtain ⟨w, hground, -, hthermal, -⟩ := frameEndWork_thermal order s
  have hconfig : w.state.thermal.config = s.thermal.config := congrArg Thermal.config (zoneGround_eq_iff.mp hground).2
  have hview : (thermalFrameEnd w).state.thermal.config = w.state.thermal.config :=
    congrArg ZoneView.config (zoneView_thermalFrameEnd w (0 : Fin 16))
  rw [hthermal, hview, hconfig]

/-- R105, R106: a zone's scale after a frame end. -/
theorem frameEndWork_zoneScale :
    let t := (frameEndWork order s).thermal
    ∃ x, t.zones[z].scale = moveScale x (scaleTarget t t.zones[z]) s.thermal.config.recoveryStep
      ∧ (x = s.thermal.zones[z].scale
        ∨ x = 0 ∧ ∃ y : Fin 16, t.zones[y].state = .shutdown ∧ (y = z ∨ s.thermal.config.response = .global)) := by
  intro t
  obtain ⟨w, hground, -, hthermal, -⟩ := frameEndWork_thermal order s
  have hscale := thermalFrameEnd_scale w z
  obtain ⟨-, hbefore⟩ := zoneGround_eq_iff.mp hground
  have hconfig : (thermalFrameEnd w).state.thermal.config = s.thermal.config := by
    rw [← hthermal, frameEndWork_thermalConfig]
  rw [hbefore] at hscale
  dsimp only at hscale
  rw [hconfig, ← hthermal] at hscale
  exact hscale

/-- R102: the event of an upward move is raised. -/
theorem frameEndWork_zoneRaises {st : ZoneState} {e : Source}
    (h : upTarget s.thermal.config.deglitch (zoneCounted order s z) = some st) (he : upEvent st = some e) :
    (frameEndWork order s).events.has e = true := by
  obtain ⟨w, hground, hports, -, hhas⟩ := frameEndWork_thermal order s
  have hconfig : w.state.thermal.config = s.thermal.config := congrArg Thermal.config (zoneGround_eq_iff.mp hground).2
  refine hhas e ?_
  rw [thermalFrameEnd_eq]
  refine EndWork.act_keeps (P := fun s => s.events.has e = true) ?_ (fun _ h => h) fun _ => countFrame_has_of
  refine foldl_units_reach (step := zoneStep) (π := zoneView) (c := z) (P := fun s => s.events.has e = true)
    (cond := fun v => upTarget v.config.deglitch (v.counted z) = some st)
    (fun w c _ h => zoneView_zoneStep_other w c h)
    (fun w c h => EndWork.act_keeps (P := fun s => s.events.has e = true) h (fun _ => evaluateZone_has_of)
      fun _ => countFrame_has_of)
    (fun w hw => ?_) ?_
  · refine EndWork.act_reach (P := fun s => s.events.has e = true) (Q := fun s => zoneView z s = zoneView z w.state) rfl
      (fun s hs => ?_) fun s hs => (zoneView_countFrame z s).trans hs
    rw [← hs] at hw
    exact evaluateZone_raises hw he
  · rw [counted_eq order s z hground hports, show (zoneView z w.state).config = w.state.thermal.config from rfl, hconfig]
    exact h

end

/-! ## The moves (R102–R104) -/

theorem moveScale_dark (x step : Nat) : moveScale x 0 step = 0 := by
  unfold moveScale
  split <;> omega

theorem frameEndWork_scale_dark (order : FrameEndOrder) (s : State) (z : Fin 16)
    (h : (frameEndWork order s).thermal.zones[z].state = .shutdown
      ∨ s.thermal.config.response = .global ∧ ∃ y : Fin 16, (frameEndWork order s).thermal.zones[y].state = .shutdown) :
    (frameEndWork order s).thermal.zones[z].scale = 0 := by
  obtain ⟨x, hscale, -⟩ := frameEndWork_zoneScale order s z
  rw [hscale, scaleTarget]
  obtain h | ⟨hglobal, hany⟩ := h
  · rw [h, stateTarget, ite_self, moveScale_dark]
  · rw [frameEndWork_thermalConfig, if_pos ⟨hglobal, (anyShutdown_iff _).mpr hany⟩, moveScale_dark]

theorem frameEndWork_scale_lit (order : FrameEndOrder) (s : State) (z : Fin 16)
    (h : s.thermal.config.response = .zone
      ∨ ∀ y : Fin 16, (frameEndWork order s).thermal.zones[y].state ≠ .shutdown) :
    (frameEndWork order s).thermal.zones[z].scale =
      moveScale s.thermal.zones[z].scale
        (stateTarget s.thermal.config (frameEndWork order s).thermal.zones[z].state) s.thermal.config.recoveryStep := by
  obtain ⟨x, hscale, hx⟩ := frameEndWork_zoneScale order s z
  have hnot : ¬ ((frameEndWork order s).thermal.config.response = .global
      ∧ anyShutdown (frameEndWork order s).thermal.zones = true) := by
    rintro ⟨hglobal, hany⟩
    obtain ⟨y, hy⟩ := (anyShutdown_iff _).mp hany
    rw [frameEndWork_thermalConfig] at hglobal
    obtain h | h := h
    · rw [h] at hglobal
      exact absurd hglobal (by decide)
    · exact h y hy
  rw [scaleTarget, if_neg hnot, frameEndWork_thermalConfig] at hscale
  obtain rfl | ⟨rfl, y, hy, hwhy⟩ := hx
  · exact hscale
  · have hz : (frameEndWork order s).thermal.zones[z].state = .shutdown := by
      obtain rfl | hglobal := hwhy
      · exact hy
      · obtain h | h := h
        · rw [h] at hglobal
          exact absurd hglobal (by decide)
        · exact absurd hy (h y)
    rw [hscale, hz, stateTarget, moveScale_dark, moveScale_dark]

end Sys2Proof.Machine
end

section
/-! The moves of the zones, and the rows that stand for them (R101–R106). -/

namespace Sys2Proof.Machine

/-! ## One counted zone (R102–R104) -/

section
variable {cfg : ThermalConfig} {c : Zone} {st : ZoneState}

/-- R102: an upward move leads to another state, and never into NORMAL. -/
theorem upTarget_rises {deglitch : Nat} (h : upTarget deglitch c = some st) : st ≠ .normal ∧ st ≠ c.state := by
  unfold upTarget at h
  cases hc : c.state with
  | shutdown => simp [hc] at h
  | hot =>
    obtain ⟨-, rfl⟩ : _ ∧ ZoneState.shutdown = st := by simpa [hc] using h
    decide
  | warm =>
    obtain ⟨-, rfl⟩ | ⟨-, -, rfl⟩ : (_ ∧ ZoneState.shutdown = st) ∨ _ ∧ _ ∧ ZoneState.hot = st := by
      simpa [hc, ite_eq_iff] using h
    · decide
    · decide
  | normal =>
    obtain ⟨-, rfl⟩ | ⟨-, ⟨-, rfl⟩ | ⟨-, -, rfl⟩⟩ : (_ ∧ ZoneState.shutdown = st)
        ∨ _ ∧ ((_ ∧ ZoneState.hot = st) ∨ _ ∧ _ ∧ ZoneState.warm = st) := by simpa [hc, ite_eq_iff] using h
    · decide
    · decide
    · decide

/-- R103, R104: the moves down. -/
theorem downTarget_falls (h : downTarget cfg c = some st) :
    c.state = .warm ∧ st = .normal ∨ c.state = .hot ∧ st = .warm ∨ c.state = .shutdown ∧ st = .hot := by
  unfold downTarget at h
  cases hc : c.state with
  | normal => simp [hc] at h
  | warm =>
    obtain ⟨-, rfl⟩ : _ ∧ ZoneState.normal = st := by simpa [hc] using h
    exact .inl ⟨rfl, rfl⟩
  | hot =>
    obtain ⟨-, rfl⟩ : _ ∧ ZoneState.warm = st := by simpa [hc] using h
    exact .inr (.inl ⟨rfl, rfl⟩)
  | shutdown =>
    obtain ⟨-, -, rfl⟩ : _ ∧ _ ∧ ZoneState.hot = st := by simpa [hc] using h
    exact .inr (.inr ⟨rfl, rfl⟩)

theorem downTarget_ne (h : downTarget cfg c = some st) : st ≠ c.state := by
  obtain ⟨hc, rfl⟩ | ⟨hc, rfl⟩ | ⟨hc, rfl⟩ := downTarget_falls h <;> rw [hc] <;> decide

theorem Zone.settled_up (h : upTarget cfg.deglitch c = some st) : c.settled cfg = { c with state := st, down := 0 } := by
  simp only [Zone.settled, h]
  cases st with
  | normal => exact absurd rfl (upTarget_rises h).1
  | warm => rfl
  | hot => rfl
  | shutdown => rfl

theorem Zone.settled_step (h : upTarget cfg.deglitch c = none) (hd : downTarget cfg c = some st) :
    c.settled cfg = { c with state := st, down := 0 } := by
  simp only [Zone.settled, h, hd]

theorem Zone.settled_stay (h : upTarget cfg.deglitch c = none) (hd : downTarget cfg c = none) : c.settled cfg = c := by
  simp only [Zone.settled, h, hd]

/-- R102: into SHUTDOWN from every other state. -/
theorem upTarget_shutdown (hs : c.state ≠ .shutdown) (h : cfg.deglitch ≤ c.shut) :
    upTarget cfg.deglitch c = some .shutdown := by
  unfold upTarget
  cases hc : c.state with
  | shutdown => exact absurd hc hs
  | hot => exact if_pos h
  | warm => exact if_pos h
  | normal => exact if_pos h

theorem upTarget_hot (hs : c.state = .normal ∨ c.state = .warm) (h : c.shut < cfg.deglitch) (hh : cfg.deglitch ≤ c.hot) :
    upTarget cfg.deglitch c = some .hot := by
  unfold upTarget
  obtain hc | hc := hs <;> rw [hc] <;> dsimp only <;> rw [if_neg (by omega), if_pos hh]

theorem upTarget_warm (hs : c.state = .normal) (h : c.shut < cfg.deglitch) (hh : c.hot < cfg.deglitch)
    (hw : cfg.deglitch ≤ c.warm) : upTarget cfg.deglitch c = some .warm := by
  unfold upTarget
  rw [hs]
  dsimp only
  rw [if_neg (by omega), if_neg (by omega), if_pos hw]

theorem Zone.settled_normal (hs : c.state = .normal) (h : c.shut < cfg.deglitch) (hh : c.hot < cfg.deglitch)
    (hw : c.warm < cfg.deglitch) : c.settled cfg = c := by
  refine Zone.settled_stay ?_ ?_
  · unfold upTarget
    rw [hs]
    dsimp only
    rw [if_neg (by omega), if_neg (by omega), if_neg (by omega)]
  · unfold downTarget
    rw [hs, ite_self]

theorem downTarget_early (h : ¬ cfg.deglitch ≤ c.down) : downTarget cfg c = none := if_pos (by omega)

theorem downTarget_due (h : cfg.deglitch ≤ c.down) :
    downTarget cfg c =
      match c.state with
      | .normal => none
      | .warm => some .normal
      | .hot => some .warm
      | .shutdown => if cfg.recovery = .auto then some .hot else none := if_neg (by omega)

/-- R103: a zone that does not move up, from the state above `st`. -/
theorem Zone.settled_of_none (hup : upTarget cfg.deglitch c = none)
    (hdue : cfg.deglitch ≤ c.down → downTarget cfg c = some st) :
    c.settled cfg = if cfg.deglitch ≤ c.down then { c with state := st, down := 0 } else c := by
  split
  · next h => exact Zone.settled_step hup (hdue h)
  · next h => exact Zone.settled_stay hup (downTarget_early h)

theorem Zone.settled_hot (hs : c.state = .hot) (h : c.shut < cfg.deglitch) :
    c.settled cfg = if cfg.deglitch ≤ c.down then { c with state := .warm, down := 0 } else c := by
  refine Zone.settled_of_none ?_ fun hdue => ?_
  · unfold upTarget
    rw [hs]
    exact if_neg (by omega)
  · rw [downTarget_due hdue, hs]

theorem Zone.settled_warm (hs : c.state = .warm) (h : c.shut < cfg.deglitch) (hh : c.hot < cfg.deglitch) :
    c.settled cfg = if cfg.deglitch ≤ c.down then { c with state := .normal, down := 0 } else c := by
  refine Zone.settled_of_none ?_ fun hdue => ?_
  · unfold upTarget
    rw [hs]
    dsimp only
    rw [if_neg (by omega), if_neg (by omega)]
  · rw [downTarget_due hdue, hs]

/-- R104: a zone leaves SHUTDOWN by itself only under AUTO. -/
theorem Zone.settled_shutdown (hs : c.state = .shutdown) :
    c.settled cfg =
      if cfg.recovery = .auto ∧ cfg.deglitch ≤ c.down then { c with state := .hot, down := 0 } else c := by
  have hup : upTarget cfg.deglitch c = none := by
    unfold upTarget
    rw [hs]
  split
  · next h => exact Zone.settled_step hup (by rw [downTarget_due h.2, hs]; exact if_pos h.1)
  · next h =>
    refine Zone.settled_stay hup ?_
    by_cases hdue : cfg.deglitch ≤ c.down
    · rw [downTarget_due hdue, hs]
      exact if_neg fun hauto => h ⟨hauto, hdue⟩
    · exact downTarget_early hdue

/-- R103: the counts stay with the move, and a move clears the down counter. -/
theorem Zone.settled_fields (cfg : ThermalConfig) (c : Zone) :
    (c.settled cfg).temp = c.temp ∧ (c.settled cfg).members = c.members ∧ (c.settled cfg).warm = c.warm
      ∧ (c.settled cfg).hot = c.hot ∧ (c.settled cfg).shut = c.shut
      ∧ (c.settled cfg).down = if (c.settled cfg).state = c.state then c.down else 0 := by
  cases hup : upTarget cfg.deglitch c with
  | some st =>
    rw [Zone.settled_up hup]
    have hne := (upTarget_rises hup).2
    simp [hne]
  | none =>
    cases hdown : downTarget cfg c with
    | some st =>
      rw [Zone.settled_step hup hdown]
      have hne := downTarget_ne hdown
      simp [hne]
    | none =>
      rw [Zone.settled_stay hup hdown]
      simp

end

/-- R102: a zone that ends an evaluation in a higher state has made that move up. -/
theorem Zone.upTarget_of_settled {cfg : ThermalConfig} {c : Zone} {st : ZoneState} (h : (c.settled cfg).state = st)
    (hrise : c.state = .normal ∧ st = .warm ∨ (c.state = .normal ∨ c.state = .warm) ∧ st = .hot
      ∨ c.state ≠ .shutdown ∧ st = .shutdown) : upTarget cfg.deglitch c = some st := by
  cases hup : upTarget cfg.deglitch c with
  | some st' =>
    rw [Zone.settled_up hup] at h
    exact congrArg some h
  | none =>
    cases hdown : downTarget cfg c with
    | some st' =>
      rw [Zone.settled_step hup hdown] at h
      obtain rfl : st' = st := h
      obtain ⟨hc, rfl⟩ | ⟨hc, rfl⟩ | ⟨hc, rfl⟩ := downTarget_falls hdown <;> simp [hc] at hrise
    | none =>
      rw [Zone.settled_stay hup hdown] at h
      rw [h] at hrise
      cases st <;> simp at hrise

theorem Zone.eq_of_bare {a b : Zone} (h : a.bare = b.bare) :
    a.state = b.state ∧ a.temp = b.temp ∧ a.members = b.members ∧ a.warm = b.warm ∧ a.hot = b.hot ∧ a.shut = b.shut
      ∧ a.down = b.down := by simpa [Zone.bare] using h

/-! ## A zone's counts at a frame end (R99, R101, R103) -/

section
variable (order : FrameEndOrder) (s : State) (z : Fin 16)

/-- R99, R100: the temperature a frame end's evaluation rests on. -/
def zoneTempAt : Option Int :=
  if order.thermalFirst then effectiveTemp s z else effectiveTemp { s with ports := (frameEndWork order s).ports } z

theorem zoneCounted_fields :
    let cfg := s.thermal.config
    let r := s.thermal.zones[z]
    let e := zoneTempAt order s z
    let c := zoneCounted order s z
    c.state = r.state ∧ c.temp = e ∧ c.members = (membersOf s z).length
      ∧ c.warm = countRun (atOrAbove e cfg.warnLow) r.warm ∧ c.hot = countRun (atOrAbove e cfg.warnHigh) r.hot
      ∧ c.shut = countRun (atOrAbove e cfg.shutdown) r.shut ∧ c.down = countDown cfg e r :=
  ⟨rfl, rfl, rfl, rfl, rfl, rfl, rfl⟩

/-- R98–R104: a zone's record after a frame end, but for its scale, by its counted record. -/
theorem frameEndWork_zone_fields :
    let cfg := s.thermal.config
    let c := zoneCounted order s z
    let q := (frameEndWork order s).thermal.zones[z]
    q.state = (c.settled cfg).state ∧ q.temp = c.temp ∧ q.members = c.members ∧ q.warm = c.warm ∧ q.hot = c.hot
      ∧ q.shut = c.shut ∧ q.down = if q.state = c.state then c.down else 0 := by
  intro cfg c q
  obtain ⟨htemp, hmembers, hwarm, hhot, hshut, hdown⟩ := c.settled_fields cfg
  obtain ⟨hstate, htemp', hmembers', hwarm', hhot', hshut', hdown'⟩ := Zone.eq_of_bare (frameEndWork_zone order s z)
  refine ⟨hstate, htemp'.trans htemp, hmembers'.trans hmembers, hwarm'.trans hwarm, hhot'.trans hhot,
    hshut'.trans hshut, hdown'.trans (hdown.trans ?_)⟩
  rw [← hstate]

/-- R102: an upward move, with the event it raises. -/
theorem frameEndWork_rises {st : ZoneState} {e : Source}
    (h : upTarget s.thermal.config.deglitch (zoneCounted order s z) = some st) (he : upEvent st = some e) :
    (frameEndWork order s).thermal.zones[z].state = st ∧ (frameEndWork order s).events.has e = true := by
  obtain ⟨hstate, -⟩ := frameEndWork_zone_fields order s z
  refine ⟨?_, frameEndWork_zoneRaises order s z h he⟩
  rw [hstate, Zone.settled_up h]

end

/-! ## The rows of the moves (log 4) -/

theorem frameEnd_thermal (order : FrameEndOrder) (s : State) :
    (frameEnd order s).thermal = (frameEndWork order s).thermal := by
  have hended : (endFrame (frameEndWork order s)).thermal = (frameEndWork order s).thermal := by simp only [endFrame]
  obtain ⟨-, -, -, hstart, -⟩ := frameStart_others (endFrame (frameEndWork order s))
  rw [frameEnd_eq]
  split
  · rw [hstart, hended]
  · exact hended

theorem countDown_of {cfg : ThermalConfig} {r : Zone} {t : Int} (h : leaveThreshold cfg r.state = some t)
    (e : Option Int) : countDown cfg e r = countRun (isCool e t cfg.hysteresis) r.down := by
  rw [countDown, h]

theorem frameEndWhen_eq {s : State} (hact : s.timing.phase = .active) {comes : Bool} {P : Prop} [Decidable P]
    (h : comes = true ↔ P) : frameEndWhen comes s = if P then frameEnd (freeOrder s) (nextFree s) else s := by
  split
  · next hp => exact frameEndWhen_true hact (h.mpr hp)
  · next hp => exact frameEndWhen_false (by rw [← Bool.not_eq_true, h]; exact hp)

/-- R100: the temperature of a frame end is one of the two that `ZoneMoves` names. -/
theorem zoneTempAt_mem (order : FrameEndOrder) (s : State) (z : Fin 16) :
    zoneTempAt order (nextFree s) z ∈
      [effectiveTemp s z, effectiveTemp { s with ports := (portsFrameEnd { state := s, left := none }).state.ports } z] := by
  have hports : (frameEndWork order (nextFree s)).ports = (portsFrameEnd { state := s, left := none }).state.ports := by
    ext c hc : 1
    have hwork := frameEndWork_port order (nextFree s) ⟨c, hc⟩
    have hblock := congrArg Prod.fst (unit_portsFrameEnd { state := s, left := none } ⟨c, hc⟩)
    exact hwork.trans hblock.symm
  rw [zoneTempAt, hports, List.mem_pair]
  cases order.thermalFirst with
  | true => exact .inl rfl
  | false => exact .inr rfl

/-- The move that a zone makes at a frame end, as `frameEndWhen` tests it. -/
theorem zoneMove_beq (z : Fin 16) (s : State) (a b : ZoneState) :
    (zoneMove z s == (a, b)) = true ↔
      s.thermal.zones[z].state = a ∧ (frameEnd (freeOrder s) (nextFree s)).thermal.zones[z].state = b := by
  rw [frameEnd_thermal, beq_iff_eq, zoneMove, Prod.mk_inj]

/-- Settles O46. -/
theorem zoneMoves : Obligations.ZoneMoves := by
  refine fun s => ⟨fun hact z => ?_, fun hact => ?_⟩
  · have hidle : ∀ comes, frameEndWhen comes s = s := frameEndWhen_idle hact
    exact ⟨congrArg Host.Outcome.next (hidle _), congrArg Host.Outcome.next (hidle _), congrArg Host.Outcome.next (hidle _),
      congrArg Host.Outcome.next (hidle _), congrArg Host.Outcome.next (hidle _)⟩
  refine ⟨freeOrder s, frameEnd (freeOrder s) (nextFree s), exec_outputFrameEnd (s := nextFree s) hact _, fun z => ?_⟩
  have hmove := zoneMove_beq z s
  have hthermal := frameEnd_thermal (freeOrder s) (nextFree s)
  intro cfg r q temps counted reach miss cooled
  have hq : q = (frameEndWork (freeOrder s) (nextFree s)).thermal.zones[z] := congrArg (fun t : Thermal => t.zones[z]) hthermal
  obtain ⟨hstate, -, -, -, -, -, hdown⟩ := frameEndWork_zone_fields (freeOrder s) (nextFree s) z
  obtain ⟨hcstate, -, -, hcwarm, hchot, hcshut, hcdown⟩ := zoneCounted_fields (freeOrder s) (nextFree s) z
  have htemp : zoneTempAt (freeOrder s) (nextFree s) z ∈ temps := zoneTempAt_mem (freeOrder s) s z
  have hraised : ∀ {e}, (frameEndWork (freeOrder s) (nextFree s)).events.has e = true →
      (frameEnd (freeOrder s) (nextFree s)).events.has e = true := frameEnd_has_of
  have hrises : ∀ {st e}, upTarget cfg.deglitch (zoneCounted (freeOrder s) (nextFree s) z) = some st →
      upEvent st = some e → q.state = st ∧ (frameEnd (freeOrder s) (nextFree s)).events.has e = true := fun h he => by
    obtain ⟨hto, hhas⟩ := frameEndWork_rises (freeOrder s) (nextFree s) z h he
    rw [hq]
    exact ⟨hto, hraised hhas⟩
  have hdark : ∀ y : Fin 16, (frameEndWork (freeOrder s) (nextFree s)).thermal.zones[y].state = .shutdown
        ∨ cfg.response = .global ∧ q.state = .shutdown →
      (frameEnd (freeOrder s) (nextFree s)).thermal.zones[y].scale = 0 := fun y h => by
    rw [hthermal]
    exact frameEndWork_scale_dark _ _ _ (h.imp_right fun h => ⟨h.1, z, hq ▸ h.2⟩)
  rw [← hq] at hstate hdown
  generalize zoneCounted (freeOrder s) (nextFree s) z = c at hstate hdown hcstate hcwarm hchot hcshut hcdown hrises
  generalize zoneTempAt (freeOrder s) (nextFree s) z = e at htemp hcwarm hchot hcshut hcdown
  replace hcstate : c.state = r.state := hcstate
  replace hstate : q.state = (c.settled cfg).state := hstate
  have hcount : ∀ n limit, countRun (atOrAbove e limit) n = counted n limit e := fun n limit => by cases e <;> rfl
  have hreach : ∀ {k n limit}, k = countRun (atOrAbove e limit) n → reach n limit → cfg.deglitch ≤ k :=
    fun hk h => by
      rw [hk, hcount]
      exact h e htemp
  have hmiss : ∀ {k n limit}, k = countRun (atOrAbove e limit) n → miss n limit → k < cfg.deglitch :=
    fun hk h => by
      rw [hk, hcount]
      exact h e htemp
  have hcooled : ∀ {limit}, leaveThreshold cfg r.state = some limit → cooled limit → cfg.deglitch ≤ c.down :=
    fun hlimit ⟨hrun, hcool⟩ => by
      have hall := hcool e htemp
      rw [← isCool_eq] at hall
      rw [show c.down = countDown cfg e r from hcdown, countDown_of hlimit, hall]
      exact hrun
  have hrise : ∀ {st}, q.state = st → c.state = .normal ∧ st = .warm ∨ (c.state = .normal ∨ c.state = .warm) ∧ st = .hot
      ∨ c.state ≠ .shutdown ∧ st = .shutdown → upTarget cfg.deglitch c = some st := fun h =>
    Zone.upTarget_of_settled (hstate.symm.trans h)
  rw [hcstate] at hdown hrise
  refine ⟨congrArg Host.Outcome.next (frameEndWhen_eq hact (hmove .normal .warm)), ?_, ?_, ?_,
    congrArg Host.Outcome.next (frameEndWhen_eq hact (hmove .shutdown .hot)), fun h => ?_, fun hr h => ?_, fun hr h => ?_,
    fun hr h => ?_, fun hr h => ?_, fun hr hs h => ?_, fun hr hs hh h => ?_, fun hr hs h => ?_, fun hr hs hh h => ?_,
    fun hr hauto h => ?_⟩
  · refine congrArg Host.Outcome.next (frameEndWhen_eq hact ?_)
    rw [Bool.or_eq_true, hmove, hmove, ← or_and_right]
  · refine congrArg Host.Outcome.next (frameEndWhen_eq hact ?_)
    rw [hq]
    simp [zoneMove, r]
  · refine congrArg Host.Outcome.next (frameEndWhen_eq hact ?_)
    rw [Bool.or_eq_true, hmove, hmove]
  · rw [hdown, if_neg h]
  · exact (hrises (hrise h (.inl ⟨hr, rfl⟩)) rfl).2
  · exact (hrises (hrise h (.inr (.inl ⟨hr, rfl⟩))) rfl).2
  · refine ⟨(hrises (hrise h (.inr (.inr ⟨hr, rfl⟩))) rfl).2, hdark z (.inl (hq ▸ h)), fun hglobal y => ?_⟩
    exact hdark y (.inr ⟨hglobal, h⟩)
  · exact (hrises (upTarget_shutdown (by rw [hcstate]; exact hr) (hreach hcshut h)) rfl).1
  · exact (hrises (upTarget_hot (by rw [hcstate]; exact hr) (hmiss hcshut hs) (hreach hchot h)) rfl).1
  · exact (hrises (upTarget_warm (hcstate.trans hr) (hmiss hcshut hs) (hmiss hchot hh) (hreach hcwarm h)) rfl).1
  · rw [hstate, Zone.settled_hot (hcstate.trans hr) (hmiss hcshut hs), if_pos (hcooled (by rw [hr]; rfl) h)]
  · rw [hstate, Zone.settled_warm (hcstate.trans hr) (hmiss hcshut hs) (hmiss hchot hh),
      if_pos (hcooled (by rw [hr]; rfl) h)]
  · rw [hstate, Zone.settled_shutdown (hcstate.trans hr), if_pos ⟨hauto, hcooled (by rw [hr]; rfl) h⟩]

end Sys2Proof.Machine
end

section
/-! The walk over the due cues, as it acts on the blocks that take their actions (R121–R123). -/

namespace Sys2Proof.Machine

/-! ## What the walk acts on -/

/-- The blocks that a cue's actions reach, and the cue engine. -/
structure Stage where
  looks : LookStore
  master : Nat
  ramp : Ramp
  lights : Lights
  follow : FollowBlock
  cues : CueEngine

def stage (s : State) : Stage :=
  { looks := s.looks, master := s.power.master, ramp := s.power.ramp, lights := s.lights, follow := s.follow
    cues := s.cues }

theorem stage_raise (e : Source) (s : State) : stage (raise e s) = stage s := by simp [stage]

theorem stage_countFrame (s : State) : stage (countFrame s) = stage s := by simp [stage]

/-! ## The actions of a cue, one by one (R122) -/

/-- R42: the look store after a cue's SWAP_LOOK. -/
def Cue.swaps (c : Cue) (l : LookStore) : LookStore := if c.swapLook = true ∧ l.staged = .checked then swapRoles l else l

/-- R42, R122: a cue's SWAP_LOOK, where it is skipped. -/
def Cue.swapSkip (c : Cue) (st : StagedState) : Option (Nat × SkippedAction) :=
  if c.swapLook = true ∧ st ≠ .checked then some (c.id, .swapLook) else none

/-- R86, R142: a master's ramp after an action. -/
def beginsRamp (value : Nat) (m : Option MasterAction) (r : Ramp) : Ramp :=
  match m with
  | some m => Ramp.begin value m.target m.frames
  | none => r

/-- R140: the fixtures after one LIGHT_FADE. -/
def fadeTable (scenes : Vector Scene 64) (t : Vector Fixture 96) (a : FadeAction) : Vector Fixture 96 :=
  match scenes[a.scene]? with
  | some (.ready entries) => entries.foldl (applyEntry a) t
  | _ => t

/-- R122, R140: one LIGHT_FADE, where it is skipped. -/
def fadeSkip (scenes : Vector Scene 64) (id : Nat) (x : FadeAction × Nat) : Option (Nat × SkippedAction) :=
  match scenes[x.1.scene]? with
  | some (.ready _) => none
  | _ => some (id, .lightFade x.2)

/-- R151, R152: a fixture and its follow value after a FOLLOW. -/
def followPair (a : Option FollowAction) (y : Fixture × Rgb) : Fixture × Rgb :=
  match a with
  | none => y
  | some a =>
    if a.on then if turnsOn a y.1 then ({ y.1 with followOn := true }, y.1.colour) else y
    else if turnsOff a y.1 then (y.1.handBack y.2, y.2) else y

def Stage.swapped (c : Cue) (v : Stage) : Stage := { v with looks := c.swaps v.looks }

/-- R122: the last skipped record after an action. -/
def Stage.skipped (k : Option (Nat × SkippedAction)) (v : Stage) : Stage :=
  { v with cues := { v.cues with lastSkipped := k.or v.cues.lastSkipped } }

def Stage.mastered (c : Cue) (v : Stage) : Stage := { v with ramp := beginsRamp v.master c.master v.ramp }

def Stage.faded (id : Nat) (v : Stage) (x : FadeAction × Nat) : Stage :=
  Stage.skipped (fadeSkip v.lights.scenes id x)
    { v with lights := { v.lights with fixtures := fadeTable v.lights.scenes v.lights.fixtures x.1 } }

def Stage.followed (c : Cue) (v : Stage) : Stage :=
  { v with
    lights :=
      { v.lights with
        fixtures := Vector.ofFn fun i => (followPair c.follow (v.lights.fixtures[i], v.follow.values[i])).1 }
    follow :=
      { v.follow with
        values := Vector.ofFn fun i => (followPair c.follow (v.lights.fixtures[i], v.follow.values[i])).2 } }

def Stage.lit (c : Cue) (v : Stage) : Stage :=
  { v with lights := { v.lights with ramp := beginsRamp v.lights.master c.lightMaster v.lights.ramp } }

def Stage.fired (c : Cue) (v : Stage) : Stage := { v with cues := { v.cues with lastFired := c.id } }

section
variable (c : Cue) (s : State)

theorem stage_noteSkip (id : Nat) (k : SkippedAction) : stage (noteSkip id k s) = (stage s).skipped (some (id, k)) :=
  stage_raise _ _

theorem stage_issueSwap : stage (issueSwap c s) = (stage s).swapped c := by
  have hlooks : (stage s).looks = s.looks := rfl
  unfold issueSwap swapLook Stage.swapped Cue.swaps
  rw [hlooks]
  by_cases hc : c.swapLook = true
  · by_cases hs : s.looks.staged = .checked
    · rw [if_pos hc, if_pos hs, if_pos ⟨hc, hs⟩]
      exact stage_raise _ _
    · rw [if_pos hc, if_neg hs, if_neg fun h => hs h.2]
      exact stage_raise _ _
  · rw [if_neg hc, if_neg fun h => hc h.1]
    rfl

theorem stage_noteSwap : stage (noteSwap c s) = (stage s).skipped (c.swapSkip (stage s).looks.staged) := by
  have hlooks : (stage s).looks = s.looks := rfl
  have hiff : (c.swapLook && s.looks.staged != .checked) = true ↔ c.swapLook = true ∧ s.looks.staged ≠ .checked := by simp
  unfold noteSwap Cue.swapSkip
  rw [hlooks]
  by_cases h : c.swapLook = true ∧ s.looks.staged ≠ .checked
  · rw [if_pos (hiff.mpr h), if_pos h]
    exact stage_noteSkip s _ _
  · rw [if_neg fun he => h (hiff.mp he), if_neg h]
    rfl

theorem stage_issueMaster : stage (issueMaster c s) = (stage s).mastered c := by
  unfold issueMaster Stage.mastered beginsRamp
  cases c.master <;> rfl

theorem stage_issueFade (id : Nat) (x : FadeAction × Nat) : stage (issueFade id x s) = (stage s).faded id x := by
  have hlights : (stage s).lights = s.lights := rfl
  unfold issueFade lightFade Stage.faded fadeSkip fadeTable
  rw [hlights]
  cases s.lights.scenes[x.1.scene]? with
  | none => exact stage_noteSkip s _ _
  | some scene =>
    cases scene with
    | ready entries => rfl
    | empty => exact stage_noteSkip s _ _
    | building n held => exact stage_noteSkip s _ _

theorem stage_issueFollow : stage (issueFollow c s) = (stage s).followed c := by
  have hlights : (stage s).lights = s.lights := rfl
  have hfollow : (stage s).follow = s.follow := rfl
  unfold issueFollow followAction Stage.followed followPair
  rw [hlights, hfollow]
  cases c.follow with
  | none => simp [stage]
  | some a =>
    cases ha : a.on with
    | true =>
      simp only [ha, if_true, followOnAction, stage, apply_ite Prod.fst, apply_ite Prod.snd]
      rfl
    | false =>
      simp only [ha, Bool.false_eq_true, if_false, followOffAction, stage, apply_ite Prod.fst, apply_ite Prod.snd, ite_self]
      simp

theorem stage_issueLightMaster : stage (issueLightMaster c s) = (stage s).lit c := by
  unfold issueLightMaster Stage.lit beginsRamp
  cases c.lightMaster <;> rfl

theorem stage_noteFired : stage (noteFired c s) = (stage s).fired c := stage_raise _ _

end

/-! ## The firing of a cue (R122, R123) -/

/-- R122: what the firing of a cue skips, in order. -/
def Cue.skips (scenes : Vector Scene 64) (st : StagedState) (c : Cue) : List (Nat × SkippedAction) :=
  (c.swapSkip st).toList ++ c.fades.zipIdx.filterMap (fadeSkip scenes c.id)

/-- R122, R123: the blocks after the firing of a cue. -/
def Stage.fire (v : Stage) (c : Cue) : Stage :=
  let acted := ((v.swapped c).skipped (c.swapSkip (v.swapped c).looks.staged)).mastered c
  (((c.fades.zipIdx.foldl (Stage.faded c.id) acted).followed c).lit c).fired c

theorem stage_firing (w : EndWork) (c : Cue) : stage (w.actAll (firingSteps c)).state = (stage w.state).fire c := by
  have hc := stage_countFrame
  simp only [firingSteps, EndWork.actAll_append, EndWork.actAll_cons, EndWork.actAll_nil, EndWork.actAll_map]
  rw [EndWork.act_project hc (stage_noteFired c), EndWork.act_project hc (stage_issueLightMaster c),
    EndWork.act_project hc (stage_issueFollow c),
    EndWork.foldl_project (π := stage) (g := Stage.faded c.id) fun w x =>
      EndWork.act_project (π := stage) (g := fun v => v.faded c.id x) hc (fun s => stage_issueFade s c.id x) w,
    EndWork.act_project hc (stage_issueMaster c),
    EndWork.act_project (g := fun v : Stage => v.skipped (c.swapSkip v.looks.staged)) hc (stage_noteSwap c),
    EndWork.act_project hc (stage_issueSwap c)]
  rfl

theorem foldl_faded (id : Nat) (xs : List (FadeAction × Nat)) (v : Stage) :
    xs.foldl (Stage.faded id) v =
      Stage.skipped (xs.filterMap (fadeSkip v.lights.scenes id)).getLast?
        { v with
          lights := { v.lights with fixtures := (xs.map Prod.fst).foldl (fadeTable v.lights.scenes) v.lights.fixtures } } := by
  induction xs generalizing v with
  | nil => rfl
  | cons x xs ih =>
    rw [List.foldl_cons, ih, List.filterMap_cons]
    simp only [Stage.faded, Stage.skipped, List.map_cons, List.foldl_cons]
    cases fadeSkip v.lights.scenes id x with
    | none => rfl
    | some k => simp [List.getLast?_cons]

theorem Cue.swaps_staged (c : Cue) (l : LookStore) : (c.swaps l).staged = l.staged := by
  unfold Cue.swaps
  split <;> rfl

section
variable (v : Stage) (c : Cue)

/-- The blocks after the firing of a cue, part by part. -/
theorem Stage.fire_eq :
    v.fire c =
      { looks := c.swaps v.looks, master := v.master, ramp := beginsRamp v.master c.master v.ramp
        lights :=
          { v.lights with
            fixtures := Vector.ofFn fun i =>
              (followPair c.follow ((c.fades.foldl (fadeTable v.lights.scenes) v.lights.fixtures)[i], v.follow.values[i])).1
            ramp := beginsRamp v.lights.master c.lightMaster v.lights.ramp }
        follow :=
          { v.follow with
            values := Vector.ofFn fun i =>
              (followPair c.follow ((c.fades.foldl (fadeTable v.lights.scenes) v.lights.fixtures)[i], v.follow.values[i])).2 }
        cues :=
          { v.cues with
            lastSkipped := (c.skips v.lights.scenes v.looks.staged).getLast?.or v.cues.lastSkipped
            lastFired := c.id } } := by
  have hskips : (c.skips v.lights.scenes v.looks.staged).getLast?.or v.cues.lastSkipped =
      (c.fades.zipIdx.filterMap (fadeSkip v.lights.scenes c.id)).getLast?.or
        ((c.swapSkip v.looks.staged).or v.cues.lastSkipped) := by
    rw [Cue.skips, List.getLast?_append, Option.or_assoc]
    cases c.swapSkip v.looks.staged <;> rfl
  rw [hskips, Stage.fire, foldl_faded, List.zipIdx_map_fst]
  simp only [Stage.swapped, Cue.swaps_staged, Stage.skipped, Stage.mastered, Stage.followed, Stage.lit, Stage.fired]

theorem Stage.fire_looks : (v.fire c).looks = c.swaps v.looks := by rw [Stage.fire_eq]

theorem Stage.fire_master : (v.fire c).master = v.master ∧ (v.fire c).ramp = beginsRamp v.master c.master v.ramp := by
  rw [Stage.fire_eq]
  exact ⟨rfl, rfl⟩

theorem Stage.fire_lights :
    (v.fire c).lights.scenes = v.lights.scenes ∧ (v.fire c).lights.master = v.lights.master
      ∧ (v.fire c).lights.ramp = beginsRamp v.lights.master c.lightMaster v.lights.ramp := by
  rw [Stage.fire_eq]
  exact ⟨rfl, rfl, rfl⟩

theorem Stage.fire_follow : (v.fire c).follow = { v.follow with values := (v.fire c).follow.values } := by
  rw [Stage.fire_eq]

theorem Stage.fire_cues :
    (v.fire c).cues =
      { v.cues with
        lastSkipped := (c.skips v.lights.scenes v.looks.staged).getLast?.or v.cues.lastSkipped, lastFired := c.id } := by
  rw [Stage.fire_eq]

theorem Stage.fire_fixture (x : Fin 96) :
    ((v.fire c).lights.fixtures[x], (v.fire c).follow.values[x]) =
      followPair c.follow ((c.fades.foldl (fadeTable v.lights.scenes) v.lights.fixtures)[x], v.follow.values[x]) := by
  rw [Stage.fire_eq]
  simp

end

/-! ## One fixture under the fades of a cue (R140) -/

/-- R140: one fixture after one LIGHT_FADE. -/
def fadeFixture (scenes : Vector Scene 64) (x : Fin 96) (f : Fixture) (a : FadeAction) : Fixture :=
  match scenes[a.scene]? with
  | some (.ready entries) =>
    match entries.find? fun e => e.fixture == x.val with
    | some e => if f.reached a.mask then f.fadeTo a.frames e else f
    | none => f
  | _ => f

theorem foldl_applyEntry_absent {a : FadeAction} {x : Fin 96} {entries : List SceneEntry}
    (h : ∀ e ∈ entries, e.fixture ≠ x.val) (t : Vector Fixture 96) : (entries.foldl (applyEntry a) t)[x] = t[x] := by
  induction entries generalizing t with
  | nil => rfl
  | cons e entries ih =>
    rw [List.foldl_cons, ih fun d hd => h d (List.mem_cons_of_mem e hd), applyEntry_getElem,
      if_neg fun he => h e List.mem_cons_self he.1]

/-- R138, R140: a scene names a fixture at most once, so that one entry at most acts on it. -/
theorem foldl_applyEntry_getElem (a : FadeAction) (x : Fin 96) {entries : List SceneEntry}
    (hn : (entries.map SceneEntry.fixture).Nodup) (t : Vector Fixture 96) :
    (entries.foldl (applyEntry a) t)[x] =
      match entries.find? fun e => e.fixture == x.val with
      | some e => if t[x].reached a.mask then t[x].fadeTo a.frames e else t[x]
      | none => t[x] := by
  induction entries generalizing t with
  | nil => rfl
  | cons e entries ih =>
    rw [List.map_cons, List.nodup_cons] at hn
    obtain ⟨hnot, hn⟩ := hn
    have happlied := applyEntry_getElem a t e x
    rw [List.foldl_cons, List.find?_cons]
    by_cases he : e.fixture = x.val
    · have habsent : ∀ d ∈ entries, d.fixture ≠ x.val := fun d hd hdx =>
        hnot (List.mem_map.mpr ⟨d, hd, hdx.trans he.symm⟩)
      rw [foldl_applyEntry_absent habsent, happlied, beq_iff_eq.mpr he]
      exact if_congr (and_iff_right he) rfl rfl
    · rw [if_neg fun h => he h.1] at happlied
      rw [ih hn, happlied, beq_eq_false_iff_ne.mpr he]

theorem fadeTable_getElem {scenes : Vector Scene 64} {a : FadeAction}
    (hn : ∀ entries, scenes[a.scene]? = some (.ready entries) → (entries.map SceneEntry.fixture).Nodup)
    (t : Vector Fixture 96) (x : Fin 96) : (fadeTable scenes t a)[x] = fadeFixture scenes x t[x] a := by
  unfold fadeTable fadeFixture
  cases hscene : scenes[a.scene]? with
  | none => rfl
  | some scene =>
    cases scene with
    | ready entries => exact foldl_applyEntry_getElem a x (hn entries hscene) t
    | empty => rfl
    | building n held => rfl

theorem foldl_fadeTable_getElem {scenes : Vector Scene 64} {fades : List FadeAction}
    (hn : ∀ a ∈ fades, ∀ entries, scenes[a.scene]? = some (.ready entries) → (entries.map SceneEntry.fixture).Nodup)
    (t : Vector Fixture 96) (x : Fin 96) :
    (fades.foldl (fadeTable scenes) t)[x] = fades.foldl (fadeFixture scenes x) t[x] := by
  induction fades generalizing t with
  | nil => rfl
  | cons a fades ih =>
    rw [List.foldl_cons, ih fun b hb => hn b (List.mem_cons_of_mem a hb), fadeTable_getElem (hn a List.mem_cons_self),
      List.foldl_cons]

/-! ## The whole walk (R121) -/

section
variable (v : Stage) (cs : List Cue)

theorem fires_looks : (cs.foldl Stage.fire v).looks = cs.foldl (fun l c => c.swaps l) v.looks := by
  induction cs generalizing v with
  | nil => rfl
  | cons c cs ih => rw [List.foldl_cons, ih, Stage.fire_looks, List.foldl_cons]

theorem fires_ramp :
    (cs.foldl Stage.fire v).ramp = cs.foldl (fun r c => beginsRamp v.master c.master r) v.ramp := by
  induction cs generalizing v with
  | nil => rfl
  | cons c cs ih =>
    obtain ⟨hmaster, hramp⟩ := v.fire_master c
    rw [List.foldl_cons, ih, hmaster, hramp, List.foldl_cons]

theorem fires_lights :
    let u := cs.foldl Stage.fire v
    u.lights.scenes = v.lights.scenes ∧ u.lights.master = v.lights.master
      ∧ u.lights.ramp = cs.foldl (fun r c => beginsRamp v.lights.master c.lightMaster r) v.lights.ramp := by
  induction cs generalizing v with
  | nil => exact ⟨rfl, rfl, rfl⟩
  | cons c cs ih =>
    obtain ⟨hscenes, hmaster, hramp⟩ := v.fire_lights c
    obtain ⟨hscenes', hmaster', hramp'⟩ := ih (v.fire c)
    rw [hmaster, hramp] at hramp'
    exact ⟨hscenes'.trans hscenes, hmaster'.trans hmaster, hramp'⟩

theorem fires_follow :
    let u := cs.foldl Stage.fire v
    u.follow = { v.follow with values := u.follow.values } := by
  induction cs generalizing v with
  | nil => rfl
  | cons c cs ih =>
    have h := ih (v.fire c)
    rw [v.fire_follow c] at h
    exact h

theorem fires_cues :
    let u := cs.foldl Stage.fire v
    u.cues =
      { v.cues with
        lastSkipped := (cs.flatMap (Cue.skips v.lights.scenes v.looks.staged)).getLast?.or v.cues.lastSkipped
        lastFired := (cs.getLast?.map Cue.id).getD v.cues.lastFired } := by
  induction cs generalizing v with
  | nil => rfl
  | cons c cs ih =>
    obtain ⟨hscenes, -⟩ := v.fire_lights c
    have hstaged : (v.fire c).looks.staged = v.looks.staged := by rw [Stage.fire_looks, Cue.swaps_staged]
    have hlast : ((c :: cs).getLast?.map Cue.id).getD v.cues.lastFired = (cs.getLast?.map Cue.id).getD c.id := by
      rw [List.getLast?_cons]
      cases cs.getLast? <;> rfl
    have h := ih (v.fire c)
    rw [hscenes, hstaged, v.fire_cues c] at h
    dsimp only at h ⊢
    rw [List.foldl_cons, h, hlast, List.flatMap_cons, List.getLast?_append, Option.or_assoc]

theorem fires_fixture
    (hn : ∀ c ∈ cs, ∀ a ∈ c.fades, ∀ entries, v.lights.scenes[a.scene]? = some (.ready entries) →
      (entries.map SceneEntry.fixture).Nodup) (x : Fin 96) :
    let u := cs.foldl Stage.fire v
    (u.lights.fixtures[x], u.follow.values[x]) =
      cs.foldl (fun y c => followPair c.follow (c.fades.foldl (fadeFixture v.lights.scenes x) y.1, y.2))
        (v.lights.fixtures[x], v.follow.values[x]) := by
  induction cs generalizing v with
  | nil => rfl
  | cons c cs ih =>
    obtain ⟨hscenes, -⟩ := v.fire_lights c
    have h := ih (v.fire c) (by rw [hscenes]; exact fun d hd => hn d (List.mem_cons_of_mem c hd))
    rw [hscenes, v.fire_fixture c x, foldl_fadeTable_getElem (hn c List.mem_cons_self)] at h
    exact h

end

/-! ## The blocks over a whole frame end -/

/-- R113, R116: the cues settled after the walk. -/
def Stage.settled (m : BitVec 32) (v : Stage) : Stage :=
  { v with cues := { v.cues with queue := v.cues.queue.flatMap (Cue.afterWalk m), ended := some m } }

/-- R40: the look store after a frame end's work on a running check. -/
def LookStore.atFrameEnd (l : LookStore) : LookStore :=
  if l.staged = .checking then if l.checkEnds = 0 then { l with checkEnds := 1 } else l.completeCheck else l

def Stage.checked (v : Stage) : Stage := { v with looks := v.looks.atFrameEnd }

/-- R148: the averages published. -/
def Stage.publishes (l : FrameLatch) (v : Stage) : Stage :=
  { v with
    follow :=
      { v.follow with published := Vector.ofFn fun i => publish l l.look.regions[i] v.follow.running[i] } }

/-- The due cues of the frame end of a state, in queue order. -/
def dueCues (s : State) : List Cue := s.cues.queue.filter (cueDue s.timing.frame)

theorem stage_checkFrameEnd (s : State) : stage (checkFrameEnd s) = (stage s).checked := by
  have hlooks : (stage s).looks = s.looks := rfl
  unfold checkFrameEnd Stage.checked LookStore.atFrameEnd
  rw [hlooks]
  split
  · split
    · rfl
    · exact stage_raise _ _
  · rfl

section
variable (order : FrameEndOrder) (s : State)

theorem stage_cuesFrameEnd :
    stage (cuesFrameEnd { state := s, left := some order.countAt }).state =
      ((dueCues s).foldl Stage.fire (stage s)).settled s.timing.frame := by
  unfold cuesFrameEnd
  rw [EndWork.act_project (π := stage) (g := Stage.settled s.timing.frame) stage_countFrame (fun _ => rfl),
    EndWork.actAll_flatMap, EndWork.foldl_project (π := stage) (g := Stage.fire) stage_firing]
  rfl

theorem stage_checkedWork :
    stage (checkedWork order s).state = (((dueCues s).foldl Stage.fire (stage s)).settled s.timing.frame).checked := by
  unfold checkedWork
  rw [EndWork.act_project stage_countFrame stage_checkFrameEnd, stage_cuesFrameEnd]

/-- What the blocks behind the cue engine leave alone of it all. -/
theorem stage_blocksFrameEnd (w : EndWork) :
    (blocksFrameEnd order w).state.comp = w.state.comp ∧ stage (blocksFrameEnd order w).state = stage w.state := by
  refine blocksFrameEnd_keeps (P := fun t => t.comp = w.state.comp ∧ stage t = stage w.state) (fun e t h => ?_)
    (fun t h => ?_) (fun _ _ _ h => h) (fun _ _ _ h => h) order ⟨rfl, rfl⟩
  · rw [stage_raise, raise_comp]
    exact h
  · rw [stage_countFrame, countFrame_comp]
    exact h

theorem stage_frameEndWork :
    stage (frameEndWork order s) =
      Stage.publishes s.comp (((dueCues s).foldl Stage.fire (stage s)).settled s.timing.frame).checked := by
  obtain ⟨hcomp, hstage⟩ := stage_blocksFrameEnd order (checkedWork order s)
  have hchecked : (checkedWork order s).state.comp = s.comp := (zoneGround_eq_iff.mp (zoneGround_checkedWork order s).1).1
  have hcount : ∀ s, ((countFrame s).comp, stage (countFrame s)) = (s.comp, stage s) := fun s => by
    rw [countFrame_comp, stage_countFrame]
  have hpublish : ((frameEndWork order s).comp, stage (frameEndWork order s)) =
      ((blocksFrameEnd order (checkedWork order s)).state.comp,
        Stage.publishes (blocksFrameEnd order (checkedWork order s)).state.comp
          (stage (blocksFrameEnd order (checkedWork order s)).state)) := by
    rw [frameEndWork_eq]
    exact (EndWork.finish_project (π := fun s => (s.comp, stage s)) hcount _).trans
      (EndWork.act_project (π := fun s => (s.comp, stage s)) (g := fun y => (y.1, Stage.publishes y.1 y.2)) hcount
        (fun _ => rfl) _)
  rw [(Prod.mk.inj hpublish).2, hcomp, hchecked, hstage, stage_checkedWork]

end

end Sys2Proof.Machine
end

section
/-! The actions the due cues of an output frame end issue (R121–R123). -/

namespace Sys2Proof.Machine

/-! ## What the walk raises -/

theorem EndWork.actAll_reaches {P Q : State → Prop} {fs : List (State → State)} {f : State → State} (hf : f ∈ fs)
    (hQ : ∀ g ∈ fs, ∀ s, Q s → Q (g s)) (hQc : ∀ s, Q s → Q (countFrame s)) (hP : ∀ g ∈ fs, ∀ s, P s → P (g s))
    (hPc : ∀ s, P s → P (countFrame s)) (hreach : ∀ s, Q s → P (f s)) {w : EndWork} (h : Q w.state) :
    P (w.actAll fs).state := by
  obtain ⟨before, after, rfl⟩ := List.append_of_mem hf
  rw [EndWork.actAll_append, EndWork.actAll_cons]
  have hbefore : Q (w.actAll before).state :=
    EndWork.actAll_keeps h (fun g hg => hQ g (List.mem_append_left _ hg)) hQc
  exact EndWork.actAll_keeps (EndWork.act_reach hbefore hreach hQc)
    (fun g hg => hP g (List.mem_append_right _ (List.mem_cons_of_mem f hg))) hPc

/-- What no action changes: the staged state and the scenes. -/
theorem firingSteps_fixed {c : Cue} {f : State → State} (hf : f ∈ firingSteps c) (s : State) :
    (f s).looks.staged = s.looks.staged ∧ (f s).lights.scenes = s.lights.scenes := by
  have hof : ∀ {v : Stage}, stage (f s) = v → v.looks.staged = s.looks.staged → v.lights.scenes = s.lights.scenes →
      (f s).looks.staged = s.looks.staged ∧ (f s).lights.scenes = s.lights.scenes := fun hv hstaged hscenes =>
    ⟨(congrArg (fun v : Stage => v.looks.staged) hv).trans hstaged,
      (congrArg (fun v : Stage => v.lights.scenes) hv).trans hscenes⟩
  simp only [firingSteps, List.mem_append, List.mem_cons, List.mem_map, List.not_mem_nil, or_false] at hf
  obtain ((rfl | rfl | rfl) | ⟨x, -, rfl⟩) | rfl | rfl | rfl := hf
  · exact hof (stage_issueSwap c s) (Cue.swaps_staged c _) rfl
  · exact hof (stage_noteSwap c s) rfl rfl
  · exact hof (stage_issueMaster c s) rfl rfl
  · exact hof (stage_issueFade s c.id x) rfl rfl
  · exact hof (stage_issueFollow c s) (by simp only [Stage.followed, stage]) (by simp only [Stage.followed, stage])
  · exact hof (stage_issueLightMaster c s) rfl rfl
  · exact hof (stage_noteFired c s) rfl rfl

section
variable {order : FrameEndOrder} {s : State} {c : Cue}

theorem frameEndWork_has_of_step {e : Source} {f : State → State} (hc : c ∈ dueCues s) (hf : f ∈ firingSteps c)
    (hraise : ∀ u : State, u.looks.staged = s.looks.staged → u.lights.scenes = s.lights.scenes →
      (f u).events.has e = true) : (frameEndWork order s).events.has e = true := by
  have hr : ∀ (a : Source) (s : State), s.events.has e = true → (raise a s).events.has e = true := fun _ _ => raise_has_of _
  refine frameEndWork_has_of_blocks (blocksFrameEnd_has_of order ?_)
  unfold checkedWork cuesFrameEnd
  refine EndWork.act_keeps (P := fun s => s.events.has e = true) (EndWork.act_keeps (P := fun s => s.events.has e = true)
    ?_ (fun _ h => h) fun _ => countFrame_has_of) (fun _ => checkFrameEnd_keepsRest (P := fun s => s.events.has e = true) hr
      fun _ _ _ _ _ _ h => h) fun _ => countFrame_has_of
  refine EndWork.actAll_reaches (P := fun s => s.events.has e = true)
    (Q := fun u => u.looks.staged = s.looks.staged ∧ u.lights.scenes = s.lights.scenes)
    (List.mem_flatMap.mpr ⟨c, hc, hf⟩) (fun g hg u hu => ?_) (fun u hu => ?_) (fun g hg u hu => ?_)
    (fun _ => countFrame_has_of) (fun u hu => hraise u hu.1 hu.2) ⟨rfl, rfl⟩
  · obtain ⟨d, -, hg⟩ := List.mem_flatMap.mp hg
    obtain ⟨hstaged, hscenes⟩ := firingSteps_fixed hg u
    exact ⟨hstaged.trans hu.1, hscenes.trans hu.2⟩
  · rw [countFrame_looks, countFrame_lights]
    exact hu
  · obtain ⟨d, -, hg⟩ := List.mem_flatMap.mp hg
    exact firingSteps_keepsRest (P := fun s => s.events.has e = true) hr (fun _ _ _ _ _ _ h => h) d g hg u hu

/-- R123. -/
theorem frameEndWork_cueFired (hc : c ∈ dueCues s) : (frameEndWork order s).events.has .cueFired = true :=
  frameEndWork_has_of_step (f := noteFired c) hc (by simp [firingSteps]) fun _ _ _ => raise_has _ _

/-- R42: SWAP_LOOK in CHECKED. -/
theorem frameEndWork_swapDone (hc : c ∈ dueCues s) (hswap : c.swapLook = true) (hs : s.looks.staged = .checked) :
    (frameEndWork order s).events.has .swapDone = true :=
  frameEndWork_has_of_step (f := issueSwap c) hc (by simp [firingSteps]) fun u hu _ => by
    rw [issueSwap, if_pos hswap, swapLook, if_pos (hu.trans hs)]
    exact raise_has _ _

/-- R42: SWAP_LOOK in EDITING and CHECKING. -/
theorem frameEndWork_swapSkipped (hc : c ∈ dueCues s) (hswap : c.swapLook = true) (hs : s.looks.staged ≠ .checked) :
    (frameEndWork order s).events.has .swapSkipped = true :=
  frameEndWork_has_of_step (f := issueSwap c) hc (by simp [firingSteps]) fun u hu _ => by
    rw [issueSwap, if_pos hswap, swapLook, if_neg (by rw [hu]; exact hs)]
    exact raise_has _ _

/-- R122: an action skipped is noted. -/
theorem frameEndWork_actionSkipped (hc : c ∈ dueCues s) (h : c.skips s.lights.scenes s.looks.staged ≠ []) :
    (frameEndWork order s).events.has .cueActionSkipped = true := by
  obtain ⟨k, hk⟩ := List.exists_mem_of_ne_nil _ h
  rw [Cue.skips, List.mem_append, Option.mem_toList, List.mem_filterMap] at hk
  obtain hswap | ⟨x, hx, hskip⟩ := hk
  · refine frameEndWork_has_of_step (f := noteSwap c) hc (by simp [firingSteps]) fun u hu _ => ?_
    have hcond : c.swapLook = true ∧ s.looks.staged ≠ .checked := by
      by_contra hno
      rw [Cue.swapSkip, if_neg hno] at hswap
      exact absurd hswap (by simp)
    rw [noteSwap, if_pos (by rw [hu]; simpa using hcond)]
    exact raise_has _ _
  · refine frameEndWork_has_of_step (f := issueFade c.id x) hc ?_ fun u _ hu => ?_
    · simp only [firingSteps, List.mem_append, List.mem_map]
      exact .inl (.inr ⟨x, hx, rfl⟩)
    · unfold issueFade lightFade
      unfold fadeSkip at hskip
      rw [hu]
      cases hscene : s.lights.scenes[x.1.scene]? with
      | none => exact raise_has _ _
      | some scene =>
        cases scene with
        | ready entries => simp [hscene] at hskip
        | empty => exact raise_has _ _
        | building n held => exact raise_has _ _

end

/-! ## The blocks after a frame end -/

section
variable (order : FrameEndOrder) (s : State)

/-- The walk over the due cues. -/
def walked (s : State) : Stage := (dueCues s).foldl Stage.fire (stage s)

theorem frameEndWork_stage :
    let t := frameEndWork order s
    let v := walked s
    t.looks = v.looks.atFrameEnd ∧ t.power.ramp = v.ramp ∧ t.lights = v.lights ∧ t.follow.values = v.follow.values
      ∧ t.cues = { v.cues with queue := v.cues.queue.flatMap (Cue.afterWalk s.timing.frame), ended := some s.timing.frame } := by
  intro t v
  have h : stage t = Stage.publishes s.comp ((walked s).settled s.timing.frame).checked := stage_frameEndWork order s
  refine ⟨congrArg Stage.looks h, congrArg Stage.ramp h, congrArg Stage.lights h,
    congrArg (fun v : Stage => v.follow.values) h, congrArg Stage.cues h⟩

theorem foldl_swaps_checked {l : LookStore} (hs : l.staged = .checked) (cs : List Cue) :
    cs.foldl (fun l c => c.swaps l) l =
      { l with activeIsBank1 := cs.foldl (fun b c => if c.swapLook = true then !b else b) l.activeIsBank1 } := by
  induction cs generalizing l with
  | nil => rfl
  | cons c cs ih =>
    rw [List.foldl_cons, ih ((c.swaps_staged l).trans hs), List.foldl_cons]
    by_cases hc : c.swapLook = true
    · rw [Cue.swaps, if_pos ⟨hc, hs⟩, if_pos hc]
      rfl
    · rw [Cue.swaps, if_neg fun h => hc h.1, if_neg hc]

theorem foldl_swaps_skipped {l : LookStore} (hs : l.staged ≠ .checked) (cs : List Cue) :
    cs.foldl (fun l c => c.swaps l) l = l := by
  induction cs with
  | nil => rfl
  | cons c cs ih => rw [List.foldl_cons, Cue.swaps, if_neg fun h => hs h.2, ih]

theorem LookStore.atFrameEnd_still {l : LookStore} (hs : l.staged ≠ .checking) : l.atFrameEnd = l := if_neg hs

/-- R42, R43: a frame end in CHECKED swaps once for each SWAP_LOOK. -/
theorem frameEndWork_looks_checked (hs : s.looks.staged = .checked) :
    (frameEndWork order s).looks =
      { s.looks with
        activeIsBank1 := (dueCues s).foldl (fun b c => if c.swapLook = true then !b else b) s.looks.activeIsBank1 } := by
  obtain ⟨hlooks, -⟩ := frameEndWork_stage order s
  have hwalk : (walked s).looks = _ := (fires_looks (stage s) (dueCues s)).trans (foldl_swaps_checked hs (dueCues s))
  rw [hlooks, hwalk, LookStore.atFrameEnd_still (by rw [hs]; decide)]

/-- R42: a frame end out of CHECKED swaps nothing. -/
theorem frameEndWork_looks_skipped (hs : s.looks.staged ≠ .checked) :
    (frameEndWork order s).looks = s.looks.atFrameEnd := by
  obtain ⟨hlooks, -⟩ := frameEndWork_stage order s
  have hwalk : (walked s).looks = _ := (fires_looks (stage s) (dueCues s)).trans (foldl_swaps_skipped hs (dueCues s))
  rw [hlooks, hwalk]

end

end Sys2Proof.Machine
end

section
/-! The actions of the due cues, as the manual spells them (R116, R121–R123, R140, R151, R152). -/

namespace Sys2Proof.Machine

/-- R123: due cues without a repeat leave the queue. -/
theorem flatMap_afterWalk_spent {m : BitVec 32} {q : List Cue} (h : ∀ c ∈ q, cueDue m c = true → c.rep = none) :
    q.flatMap (Cue.afterWalk m) = q.filter fun c => !cueDue m c := by
  induction q with
  | nil => rfl
  | cons c q ih =>
    rw [List.flatMap_cons, List.filter_cons, ih fun d hd => h d (List.mem_cons_of_mem c hd), Cue.afterWalk]
    cases hdue : cueDue m c with
    | true =>
      simp [Cue.settle, h c List.mem_cons_self hdue]
    | false => simp

theorem Fixture.reached_iff (mask : BitVec 16) (f : Fixture) :
    f.reached mask = true ↔ f.present = true ∧ f.groups &&& mask ≠ 0 := by
  rw [Fixture.reached, Bool.and_eq_true, bne_iff_ne]

theorem turnsOn_iff (a : FollowAction) (f : Fixture) :
    turnsOn a f = true ↔
      (f.present = true ∧ f.groups &&& a.mask ≠ 0) ∧ f.followOn = false ∧ f.region.isSome = true := by
  rw [turnsOn, Bool.and_eq_true, Bool.and_eq_true, Fixture.reached_iff, Bool.not_eq_true', and_assoc]

theorem turnsOff_iff (a : FollowAction) (f : Fixture) :
    turnsOff a f = true ↔ (f.present = true ∧ f.groups &&& a.mask ≠ 0) ∧ f.followOn = true := by
  rw [turnsOff, Bool.and_eq_true, Fixture.reached_iff]

/-- R151: FOLLOW on, at one fixture. -/
theorem followPair_on {a : FollowAction} (ha : a.on = true) (f : Fixture) (v : Rgb) :
    followPair (some a) (f, v) =
      if (f.present = true ∧ f.groups &&& a.mask ≠ 0) ∧ f.followOn = false ∧ f.region.isSome = true then
        ({ f with followOn := true }, f.colour)
      else (f, v) := by
  simp only [followPair, ha, if_true]
  exact if_congr (turnsOn_iff a f) rfl rfl

/-- R152: FOLLOW off, at one fixture. -/
theorem followPair_off {a : FollowAction} (ha : a.on = false) (f : Fixture) (v : Rgb) :
    followPair (some a) (f, v) =
      if (f.present = true ∧ f.groups &&& a.mask ≠ 0) ∧ f.followOn = true then (f.handBack v, v) else (f, v) := by
  simp only [followPair, ha, Bool.false_eq_true, if_false]
  exact if_congr (turnsOff_iff a f) rfl rfl

theorem followPair_eq (a : FollowAction) (f : Fixture) (v : Rgb) :
    followPair (some a) (f, v) =
      if ¬ (f.present = true ∧ f.groups &&& a.mask ≠ 0) then (f, v)
      else if a.on = true then
        if f.followOn = false ∧ f.region.isSome = true then ({ f with followOn := true }, f.colour) else (f, v)
      else if f.followOn = true then (f.handBack v, v) else (f, v) := by
  by_cases hr : f.present = true ∧ f.groups &&& a.mask ≠ 0
  · rw [if_neg (not_not_intro hr)]
    split
    · next ha => exact (followPair_on ha f v).trans (if_congr (and_iff_right hr) rfl rfl)
    · next ha => exact (followPair_off (Bool.not_eq_true _ ▸ ha) f v).trans (if_congr (and_iff_right hr) rfl rfl)
  · rw [if_pos hr]
    cases ha : a.on with
    | true => rw [followPair_on ha, if_neg fun h => hr h.1]
    | false => rw [followPair_off ha, if_neg fun h => hr h.1]

/-! ## What a cue skips (R122) -/

theorem fadeSkip_eq {scenes : Vector Scene 64} {id : Nat} {x : FadeAction × Nat} :
    (fadeSkip scenes id x = none ↔ ∃ entries, scenes[x.1.scene]? = some (.ready entries))
      ∧ ((∀ entries, scenes[x.1.scene]? ≠ some (.ready entries)) → fadeSkip scenes id x = some (id, .lightFade x.2)) := by
  unfold fadeSkip
  cases scenes[x.1.scene]? with
  | none => simp
  | some scene => cases scene <;> simp

/-- R122: the last skipped LIGHT_FADE of a cue is the last skipped of all its actions. -/
theorem Cue.skips_fade {c : Cue} {scenes : Vector Scene 64} {st : StagedState} {k : Nat} {a : FadeAction}
    (hk : c.fades[k]? = some a) (hnot : ∀ entries, scenes[a.scene]? ≠ some (.ready entries)) :
    c.skips scenes st ≠ [] ∧
      ((∀ j b, k < j → c.fades[j]? = some b → ∃ entries, scenes[b.scene]? = some (.ready entries)) →
        (c.skips scenes st).getLast? = some (c.id, .lightFade k)) := by
  have hskip : fadeSkip scenes c.id (a, k) = some (c.id, .lightFade k) := fadeSkip_eq.2 hnot
  have hmem : (a, k) ∈ c.fades.zipIdx := List.mem_zipIdx_iff_getElem?.mpr hk
  refine ⟨fun h => ?_, fun hlater => ?_⟩
  · rw [Cue.skips, List.append_eq_nil_iff, List.filterMap_eq_nil_iff] at h
    exact absurd (hskip.symm.trans (h.2 _ hmem)) (by simp)
  · obtain ⟨hlt, rfl⟩ := List.getElem?_eq_some_iff.mp hk
    have hsplit : c.fades.zipIdx = (c.fades.take k).zipIdx ++ (c.fades[k], k) :: (c.fades.drop (k + 1)).zipIdx (k + 1) := by
      conv_lhs => rw [← List.take_append_drop k c.fades, List.drop_eq_getElem_cons hlt, List.zipIdx_append,
        List.zipIdx_cons, List.length_take_of_le hlt.le, Nat.zero_add]
    have hnone : ((c.fades.drop (k + 1)).zipIdx (k + 1)).filterMap (fadeSkip scenes c.id) = [] := by
      refine List.filterMap_eq_nil_iff.mpr fun ⟨b, j⟩ hb => fadeSkip_eq.1.mpr ?_
      obtain ⟨hkj, hb⟩ := List.mk_mem_zipIdx_iff_le_and_getElem?_sub.mp hb
      rw [List.getElem?_drop, Nat.add_sub_cancel' hkj] at hb
      exact hlater j b hkj hb
    rw [Cue.skips, hsplit, List.filterMap_append, List.filterMap_cons_some hskip, hnone]
    simp

/-! ## The walk at one fixture -/

theorem find?_entry {entries : List SceneEntry} (hn : (entries.map SceneEntry.fixture).Nodup) {e : SceneEntry}
    (he : e ∈ entries) {x : Nat} (hx : e.fixture = x) : (entries.find? fun e => e.fixture == x) = some e := by
  induction entries with
  | nil => simp at he
  | cons d entries ih =>
    rw [List.map_cons, List.nodup_cons] at hn
    obtain ⟨hnot, hn⟩ := hn
    obtain rfl | he := List.mem_cons.mp he
    · exact List.find?_cons_of_pos (beq_iff_eq.mpr hx)
    · have hd : ¬ (d.fixture == x) = true := fun h =>
        hnot (List.mem_map.mpr ⟨e, he, hx.trans (beq_iff_eq.mp h).symm⟩)
      exact (List.find?_cons_of_neg (p := fun e : SceneEntry => e.fixture == x) hd).trans (ih hn he)

theorem Lights.eq_of_fields {l m : Lights} (hs : l.scenes = m.scenes) (hm : l.master = m.master) :
    l = { m with fixtures := l.fixtures, ramp := l.ramp } := by
  cases l
  cases m
  cases hs
  cases hm
  rfl

section
variable (order : FrameEndOrder) (s : State)

/-- R86, R121, R142: the ramps of the masters after a frame end. -/
theorem frameEndWork_ramps :
    let t := frameEndWork order s
    t.power.ramp = (dueCues s).foldl (fun r c => beginsRamp s.power.master c.master r) s.power.ramp
      ∧ t.lights = { s.lights with fixtures := t.lights.fixtures, ramp := t.lights.ramp }
      ∧ t.lights.ramp = (dueCues s).foldl (fun r c => beginsRamp s.lights.master c.lightMaster r) s.lights.ramp := by
  intro t
  obtain ⟨-, hramp, hlights, -⟩ := frameEndWork_stage order s
  obtain ⟨hscenes, hmaster, hlightRamp⟩ := fires_lights (stage s) (dueCues s)
  refine ⟨hramp.trans (fires_ramp (stage s) (dueCues s)), ?_, (congrArg Lights.ramp hlights).trans hlightRamp⟩
  refine Lights.eq_of_fields ((congrArg Lights.scenes hlights).trans hscenes) ((congrArg Lights.master hlights).trans hmaster)

/-- R122, R123, R113, R116: the cue engine after a frame end. -/
theorem frameEndWork_cues :
    (frameEndWork order s).cues =
      { s.cues with
        queue := s.cues.queue.flatMap (Cue.afterWalk s.timing.frame), ended := some s.timing.frame
        lastSkipped := ((dueCues s).flatMap (Cue.skips s.lights.scenes s.looks.staged)).getLast?.or s.cues.lastSkipped
        lastFired := ((dueCues s).getLast?.map Cue.id).getD s.cues.lastFired } := by
  obtain ⟨-, -, -, -, hcues⟩ := frameEndWork_stage order s
  have hwalk : (walked s).cues = _ := fires_cues (stage s) (dueCues s)
  rw [hcues, hwalk]
  rfl

theorem frameEndWork_fixture
    (hn : ∀ c ∈ dueCues s, ∀ a ∈ c.fades, ∀ entries, s.lights.scenes[a.scene]? = some (.ready entries) →
      (entries.map SceneEntry.fixture).Nodup) (x : Fin 96) :
    ((frameEndWork order s).lights.fixtures[x], (frameEndWork order s).follow.values[x]) =
      (dueCues s).foldl (fun y c => followPair c.follow (c.fades.foldl (fadeFixture s.lights.scenes x) y.1, y.2))
        (s.lights.fixtures[x], s.follow.values[x]) := by
  obtain ⟨-, -, hlights, hvalues, -⟩ := frameEndWork_stage order s
  rw [hlights, hvalues]
  exact fires_fixture (stage s) (dueCues s) hn x

end

/-! ## A lone due cue -/

section
variable {order : FrameEndOrder} {s : State} {c : Cue}

theorem beginsRamp_eq {m : Option MasterAction} :
    (∀ a, m = some a → ∀ value r, beginsRamp value m r = Ramp.begin value a.target a.frames)
      ∧ (m = none → ∀ value r, beginsRamp value m r = r) := by
  constructor
  · rintro a rfl value r
    rfl
  · rintro rfl value r
    rfl

theorem frameEndWork_lone_fired (hd : dueCues s = [c]) :
    (frameEndWork order s).cues.lastFired = c.id ∧ (frameEndWork order s).events.has .cueFired = true
      ∧ (frameEndWork order s).cues.lastSkipped =
        (c.skips s.lights.scenes s.looks.staged).getLast?.or s.cues.lastSkipped := by
  rw [frameEndWork_cues, hd, List.flatMap_singleton]
  exact ⟨rfl, frameEndWork_cueFired (c := c) (by simp [hd]), rfl⟩

theorem frameEndWork_lone_queue (hd : dueCues s = [c]) (hrep : c.rep = none) :
    (frameEndWork order s).cues.queue = s.cues.queue.filter fun d => !cueDue s.timing.frame d := by
  rw [frameEndWork_cues]
  refine flatMap_afterWalk_spent fun d hmem hdue => ?_
  have hin : d ∈ dueCues s := List.mem_filter.mpr ⟨hmem, hdue⟩
  rw [hd, List.mem_singleton] at hin
  rw [hin, hrep]

/-- R42: a lone due cue without SWAP_LOOK. -/
theorem frameEndWork_lone_noSwap (hd : dueCues s = [c]) (hswap : c.swapLook = false) (hs : s.looks.staged ≠ .checking) :
    (frameEndWork order s).looks = s.looks := by
  by_cases hchecked : s.looks.staged = .checked
  · rw [frameEndWork_looks_checked order s hchecked, hd]
    simp [hswap]
  · rw [frameEndWork_looks_skipped order s hchecked, LookStore.atFrameEnd_still hs]

theorem frameEndWork_lone_fadeSkipped (hd : dueCues s = [c]) {k : Nat} {a : FadeAction} (hk : c.fades[k]? = some a)
    (hnot : ∀ entries, s.lights.scenes[a.scene]? ≠ some (.ready entries)) :
    (frameEndWork order s).events.has .cueActionSkipped = true
      ∧ ((∀ j b, k < j → c.fades[j]? = some b → ∃ entries, s.lights.scenes[b.scene]? = some (.ready entries)) →
        (frameEndWork order s).cues.lastSkipped = some (c.id, .lightFade k)) := by
  obtain ⟨hne, hlast⟩ := Cue.skips_fade (st := s.looks.staged) hk hnot
  obtain ⟨-, -, hskipped⟩ := frameEndWork_lone_fired (order := order) hd
  refine ⟨frameEndWork_actionSkipped (c := c) (by simp [hd]) hne, fun hlater => ?_⟩
  rw [hskipped, hlast hlater]
  rfl

theorem frameEndWork_lone_fixture (hd : dueCues s = [c])
    (hn : ∀ a ∈ c.fades, ∀ entries, s.lights.scenes[a.scene]? = some (.ready entries) →
      (entries.map SceneEntry.fixture).Nodup) (x : Fin 96) :
    ((frameEndWork order s).lights.fixtures[x], (frameEndWork order s).follow.values[x]) =
      followPair c.follow (c.fades.foldl (fadeFixture s.lights.scenes x) s.lights.fixtures[x], s.follow.values[x]) := by
  rw [frameEndWork_fixture order s (by rw [hd]; simpa using hn) x, hd]
  rfl

/-- R140: a lone LIGHT_FADE. -/
theorem frameEndWork_lone_faded (hd : dueCues s = [c]) {a : FadeAction} (hf : c.fades = [a]) (hfollow : c.follow = none)
    (hn : ∀ entries, s.lights.scenes[a.scene]? = some (.ready entries) → (entries.map SceneEntry.fixture).Nodup)
    (x : Fin 96) :
    (frameEndWork order s).lights.fixtures[x] = fadeFixture s.lights.scenes x s.lights.fixtures[x] a := by
  have h := frameEndWork_lone_fixture (order := order) hd (by rw [hf]; simpa using hn) x
  rw [hfollow, hf] at h
  exact congrArg Prod.fst h

/-- R122: a lone cue with a single LIGHT_FADE, which is skipped. -/
theorem frameEndWork_lone_unfaded (hd : dueCues s = [c]) {a : FadeAction} (hf : c.fades = [a]) (hfollow : c.follow = none)
    (hnot : ∀ entries, s.lights.scenes[a.scene]? ≠ some (.ready entries)) :
    (frameEndWork order s).lights.fixtures = s.lights.fixtures
      ∧ (frameEndWork order s).events.has .cueActionSkipped = true
      ∧ (frameEndWork order s).cues.lastSkipped = some (c.id, .lightFade 0) := by
  obtain ⟨hraised, hlast⟩ := frameEndWork_lone_fadeSkipped (order := order) hd (k := 0) (by rw [hf]; rfl) hnot
  refine ⟨Vector.ext fun i hi => ?_, hraised, hlast fun j b hj hb => ?_⟩
  · refine (frameEndWork_lone_faded (order := order) hd hf hfollow (fun entries he => absurd he (hnot entries))
      ⟨i, hi⟩).trans ?_
    unfold fadeFixture
    split
    · next entries he => exact absurd he (hnot entries)
    · rfl
  · rw [hf, List.getElem?_eq_none (by rw [List.length_singleton]; omega)] at hb
    exact absurd hb (by simp)

/-- R151, R152: a lone cue without LIGHT_FADE. -/
theorem frameEndWork_lone_follow (hd : dueCues s = [c]) (hf : c.fades = []) (x : Fin 96) :
    ((frameEndWork order s).lights.fixtures[x], (frameEndWork order s).follow.values[x]) =
      followPair c.follow (s.lights.fixtures[x], s.follow.values[x]) := by
  have h := frameEndWork_lone_fixture (order := order) hd (by rw [hf]; simp) x
  rw [hf] at h
  exact h

end

/-- Settles O44. -/
theorem cueActionsIssued : Obligations.CueActionsIssued := by
  intro order s hact hheld due dues begun reached faded faded' handed fadedBy followed skips
  have hdue : ∀ c, due c = cueDue s.timing.frame c := fun c => by
    cases htrigger : c.trigger <;> simp [due, cueDue, htrigger, atOrBelow]
  have hdues : dues = dueCues s := List.filter_congr fun c _ => hdue c
  have hskips : ∀ c, skips c = c.skips s.lights.scenes s.looks.staged := fun c => by
    have hswap : (if c.swapLook = true ∧ s.looks.staged ≠ .checked then [(c.id, SkippedAction.swapLook)] else [])
        = (c.swapSkip s.looks.staged).toList := by
      unfold Cue.swapSkip
      split <;> rfl
    exact congrArg (· ++ c.fades.zipIdx.filterMap (fadeSkip s.lights.scenes c.id)) hswap
  have hattr : ∀ frames v a, Attr.fadeTo frames v a = faded' frames v a := fun frames v a => by cases v <;> rfl
  have hfade : ∀ x c f, fadedBy x c f = c.fades.foldl (fadeFixture s.lights.scenes x) f := fun x c f => by
    refine congrArg (fun g => c.fades.foldl g f) (funext₂ fun f a => ?_)
    unfold fadeFixture
    cases s.lights.scenes[a.scene]? with
    | none => rfl
    | some scene =>
      cases scene with
      | empty => rfl
      | building n held => rfl
      | ready entries =>
        dsimp only
        cases entries.find? fun e => e.fixture == x.val with
        | none => rfl
        | some e =>
          simp only [Fixture.fadeTo, hattr]
          exact if_congr (Fixture.reached_iff a.mask f).symm rfl rfl
  have hfollow : ∀ c f v, followed c f v = followPair c.follow (f, v) := fun c f v => by
    simp only [followed]
    cases c.follow with
    | none => rfl
    | some a => exact (followPair_eq a f v).symm
  obtain ⟨hramp, hlights, hlightRamp⟩ := frameEndWork_ramps order s
  have hcues := frameEndWork_cues order s
  have hfixture := frameEndWork_fixture order s
  refine ⟨_, exec_outputFrameEnd_free hact hheld order, ?_⟩
  rw [hdues]
  simp only [endFrame]
  have hflat : (dueCues s).flatMap skips = (dueCues s).flatMap (Cue.skips s.lights.scenes s.looks.staged) :=
    List.flatMap_congr fun c _ => hskips c
  refine ⟨hramp, hlights, hlightRamp, fun hs => ⟨frameEndWork_looks_checked order s hs, fun c hc hswap =>
      frameEndWork_swapDone hc hswap hs⟩, fun c hc hswap hs => frameEndWork_swapSkipped hc hswap hs, ?_, fun h => ?_,
    fun hn x => ?_, fun c d hd => ?_, fun c hd => ?_⟩
  · rw [hcues, hflat]
  · rw [hflat] at h
    obtain ⟨k, hk⟩ := List.exists_mem_of_ne_nil _ h
    obtain ⟨c, hc, hk⟩ := List.mem_flatMap.mp hk
    exact frameEndWork_actionSkipped hc (List.ne_nil_of_mem hk)
  · refine (hfixture hn x).trans (congrArg (fun g => (dueCues s).foldl g _) (funext₂ fun y c => ?_))
    rw [hfollow, hfade]
  · have hc : c ∈ dueCues s := by simp [hd]
    rw [hd] at hramp hlightRamp
    refine ⟨by rw [hcues, hd]; rfl, frameEndWork_cueFired hc, fun hswapc hswapd hs => ⟨?_, frameEndWork_swapDone hc hswapc hs⟩,
      fun m hm => ?_, fun m hm => ?_⟩
    · rw [frameEndWork_looks_checked order s hs, hd]
      simp [hswapc, hswapd]
    · rw [hramp]
      exact beginsRamp_eq.1 m hm _ _
    · rw [hlightRamp]
      exact beginsRamp_eq.1 m hm _ _
  · have hc : c ∈ dueCues s := by simp [hd]
    obtain ⟨hlast, hfired, hskipped⟩ := frameEndWork_lone_fired (order := order) hd
    rw [hd] at hramp hlightRamp
    refine ⟨hlast, hfired, fun hrep => ?_, fun hswap hs => ⟨?_, frameEndWork_swapDone hc hswap hs⟩,
      fun hswap hs => ⟨fun he => ?_, frameEndWork_swapSkipped hc hswap hs, frameEndWork_actionSkipped hc ?_, fun hf => ?_⟩,
      fun hswap => ⟨frameEndWork_lone_noSwap hd hswap, fun hf => ?_⟩, fun m hm => ?_, fun hm => ?_, fun m hm => ?_,
      fun hm => ?_, fun hf hfollow => ?_, fun a entries hf hfollow hscene hn x e he hx => ?_, fun a hf hfollow hscene => ?_,
      fun a n held hf hfollow hscene => ?_, fun k a hk hnot => frameEndWork_lone_fadeSkipped hd hk hnot,
      fun a hf hfollow ha x => ?_, fun a hf hfollow ha x => ?_⟩
    · rw [frameEndWork_lone_queue hd hrep]
      exact List.filter_congr fun d _ => by rw [hdue]
    · rw [frameEndWork_looks_checked order s hs, hd]
      simp [hswap]
    · rw [frameEndWork_looks_skipped order s hs, LookStore.atFrameEnd_still (by rw [he]; decide)]
    · simp [Cue.skips, Cue.swapSkip, hswap, hs]
    · rw [hskipped]
      simp [Cue.skips, Cue.swapSkip, hswap, hs, hf]
    · rw [hskipped]
      simp [Cue.skips, Cue.swapSkip, hswap, hf]
    · rw [hramp]
      exact beginsRamp_eq.1 m hm _ _
    · rw [hramp]
      exact beginsRamp_eq.2 hm _ _
    · rw [hlightRamp]
      exact beginsRamp_eq.1 m hm _ _
    · rw [hlightRamp]
      exact beginsRamp_eq.2 hm _ _
    · refine Vector.ext fun i hi => ?_
      have h := frameEndWork_lone_follow (order := order) hd hf ⟨i, hi⟩
      rw [hfollow] at h
      exact congrArg Prod.fst h
    · have hx' := frameEndWork_lone_faded (order := order) hd hf hfollow
        (fun es hes => by rw [hscene] at hes; cases hes; exact hn) x
      simp only [fadeFixture, hscene, find?_entry hn he hx] at hx'
      rw [hx']
      refine ⟨fun hr => ?_, fun hr => if_neg fun h => hr ((Fixture.reached_iff a.mask _).mp h)⟩
      rw [if_pos ((Fixture.reached_iff a.mask _).mpr hr)]
      refine ⟨fun v hv => ?_, fun hv => ?_, fun v hv => ?_, fun v hv => ?_, fun v hv => ?_⟩ <;>
        simp only [Fixture.fadeTo, hv] <;> rfl
    · exact frameEndWork_lone_unfaded hd hf hfollow (by simp [hscene])
    · exact frameEndWork_lone_unfaded hd hf hfollow (by simp [hscene])
    · have h := frameEndWork_lone_follow (order := order) hd hf x
      rw [hfollow, followPair_off ha] at h
      refine ⟨?_, fun hr hon => ?_, fun hno => ?_⟩
      · have hv := congrArg Prod.snd h
        rw [apply_ite Prod.snd, ite_self] at hv
        exact hv
      · rw [if_pos ⟨hr, hon⟩] at h
        exact congrArg Prod.fst h
      · rw [if_neg hno] at h
        exact congrArg Prod.fst h
    · have h := frameEndWork_lone_follow (order := order) hd hf x
      rw [hfollow, followPair_on ha] at h
      refine ⟨fun hr hoff hregion => ?_, fun hno => ?_⟩
      · rw [if_pos ⟨hr, hoff, hregion⟩] at h
        exact Prod.mk.inj h
      · rw [if_neg hno] at h
        exact Prod.mk.inj h

end Sys2Proof.Machine
end

section
/-! Region sums and follow values at a frame start, averages and zones at a frame end (R98–R106, R146–R150). -/

namespace Sys2Proof.Machine

/-! ## Region sums (R147) -/

/-- R147: the columns (or lines) of a raster inside a region are a run of consecutive numbers. -/
theorem filter_range_clip (at' : Int) (size limit : Nat) :
    ((List.range limit).filter fun n : Nat => decide (at' ≤ (n : Int) ∧ (n : Int) < at' + size)) =
      List.range' (clip at' size limit).1 (clip at' size limit).2 := by
  induction limit with
  | zero =>
    have hnone : (clip at' size 0).2 = 0 := by
      simp only [clip]
      omega
    rw [hnone]
    rfl
  | succ limit ih =>
    have hlo : (clip at' size (limit + 1)).1 = (clip at' size limit).1 := rfl
    rw [List.range_succ, List.filter_append, ih, hlo]
    by_cases h : at' ≤ (limit : Int) ∧ (limit : Int) < at' + size
    · have hlen : (clip at' size (limit + 1)).2 = (clip at' size limit).2 + 1 := by
        simp only [clip]
        omega
      have hlast : (clip at' size limit).1 + (clip at' size limit).2 = limit := by
        simp only [clip]
        omega
      rw [hlen, List.range'_1_concat, hlast]
      simp [h]
    · have hlen : (clip at' size (limit + 1)).2 = (clip at' size limit).2 := by
        simp only [clip]
        omega
      rw [hlen]
      simp [h]

section
variable {channel : Rgb → Nat} (hzero : channel (Rgb.all 0) = 0)
  (hadd : ∀ a b, channel (Rgb.zip (· + ·) a b) = channel a + channel b)
include hzero hadd

theorem rowSum_channel (page : Page) (x y n : Nat) :
    channel (rowSum page x y n) = ((List.range' x n).map fun k => channel (page.pixel k y)).sum := by
  induction n with
  | zero => exact hzero
  | succ n ih => rw [rowSum, hadd, ih, List.range'_1_concat, List.map_append, List.sum_append, List.map_singleton,
      List.sum_singleton]

theorem rectSum_channel (page : Page) (x y n m : Nat) :
    channel (rectSum page x y n m) =
      ((List.range' y m).map fun k => ((List.range' x n).map fun j => channel (page.pixel j k)).sum).sum := by
  induction m with
  | zero => exact hzero
  | succ m ih => rw [rectSum, hadd, ih, rowSum_channel hzero hadd, List.range'_1_concat, List.map_append, List.sum_append,
      List.map_singleton, List.sum_singleton]

end

theorem Region.defined_iff (r : Region) : r.defined = true ↔ r.width ≠ 0 ∧ r.height ≠ 0 := by
  rw [Region.defined, Bool.and_eq_true, bne_iff_ne, bne_iff_ne]

section
variable {l : FrameLatch} {pages : Vector Page 3} {r : Region}

theorem measureRegion_nothing (h : r.width = 0 ∨ r.height = 0 ∨ l.source = .none) :
    measureRegion l pages r = RegionSum.zero := by
  unfold measureRegion
  split
  · next hd =>
    obtain ⟨hw, hh⟩ := r.defined_iff.mp hd
    rw [(h.resolve_left hw).resolve_left hh]
  · rfl

theorem measureRegion_fill (hd : r.defined = true) (h : l.source = .fill) :
    let x := measureRegion l pages r
    x.count = r.width * r.height ∧ x.sum.r = x.count * l.fill.r ∧ x.sum.g = x.count * l.fill.g
      ∧ x.sum.b = x.count * l.fill.b := by
  intro x
  have hx : x = { sum := l.fill.map (· * (r.width * r.height)), count := r.width * r.height } := by
    simp only [x]
    rw [measureRegion, if_pos hd, h]
  rw [hx]
  exact ⟨rfl, Nat.mul_comm .., Nat.mul_comm .., Nat.mul_comm ..⟩

/-- R147: a region in a page's raster. -/
theorem measureRegion_page (hd : r.defined = true) {p : Fin 3} {w h : Nat} (hs : l.source = .page p)
    (hr : l.raster = some (w, h)) :
    let x := measureRegion l pages r
    let xs := (List.range w).filter fun n : Nat => decide (r.x ≤ (n : Int) ∧ (n : Int) < r.x + r.width)
    let ys := (List.range h).filter fun n : Nat => decide (r.y ≤ (n : Int) ∧ (n : Int) < r.y + r.height)
    let total (channel : Rgb → Nat) : Nat := (ys.map fun y => (xs.map fun n => channel (pages[p].pixel n y)).sum).sum
    x.count = xs.length * ys.length ∧ x.sum.r = total Rgb.r ∧ x.sum.g = total Rgb.g ∧ x.sum.b = total Rgb.b := by
  intro x xs ys total
  have hx : x = { sum := rectSum pages[p] (clip r.x r.width w).1 (clip r.y r.height h).1 (clip r.x r.width w).2
                    (clip r.y r.height h).2
                  count := (clip r.x r.width w).2 * (clip r.y r.height h).2 } := by
    simp only [x]
    rw [measureRegion, if_pos hd, hs, hr]
  have hxs : xs = List.range' (clip r.x r.width w).1 (clip r.x r.width w).2 := filter_range_clip ..
  have hys : ys = List.range' (clip r.y r.height h).1 (clip r.y r.height h).2 := filter_range_clip ..
  simp only [total]
  rw [hxs, hys, hx, List.length_range', List.length_range']
  exact ⟨rfl, rectSum_channel (channel := Rgb.r) rfl (fun _ _ => rfl) _ _ _ _ _,
    rectSum_channel (channel := Rgb.g) rfl (fun _ _ => rfl) _ _ _ _ _,
    rectSum_channel (channel := Rgb.b) rfl (fun _ _ => rfl) _ _ _ _ _⟩

end

/-- R146, R147: the running records of the frame that a frame start begins. -/
theorem frameStart_running (s : State) (i : Fin 16) :
    (frameStart s).follow.running[i] =
      measureRegion (frameStart s).comp (frameStart s).store.pages s.looks.active.regions[i] := by
  obtain ⟨hlook, -⟩ := frameStart_latch (s := s)
  rw [frameStart_comp] at hlook
  rw [frameStart_follow, frameStart_comp, frameStart_store, ← hlook]
  simp

theorem frameStart_raster {s : State} {p : Fin 3} (h : (frameStart s).comp.source = .page p) :
    (frameStart s).comp.raster = (frameStart s).store.pages[p].size := by
  obtain ⟨hsource, hraster⟩ := frameStart_source (s := s)
  rw [hraster, ← hsource, h]
  rfl

/-! ## Follow values (R150) -/

/-- R150: one channel's step, written out. -/
theorem followNext_eq (gain rate value average : Nat) :
    followNext gain rate value average =
      let gained := gainedTarget average gain
      let step := Int.tdiv (((gained : Int) - value) * rate) 256
      if step ≠ 0 then ((value : Int) + step).toNat
      else if value < gained then value + 1 else if gained < value then value - 1 else value := by
  simp only [followNext, followStep]
  generalize gainedTarget average gain = g
  generalize Int.tdiv (((g : Int) - value) * rate) 256 = d
  by_cases hd : d = 0
  · rw [if_neg (not_not_intro hd)]
    obtain hlt | rfl | hgt := lt_trichotomy value g
    · rw [if_pos ⟨hd, hlt.ne'⟩, if_pos hlt, if_pos hlt]
      omega
    · simp [hd]
    · rw [if_pos ⟨hd, hgt.ne⟩, if_neg hgt.not_gt, if_neg hgt.not_gt, if_pos hgt]
      omega
  · rw [if_neg fun h => hd h.1, if_pos hd]

theorem frameStart_followValue (s : State) (n : Fin 96) :
    (frameStart s).follow.values[n] =
      stepFollowValue s.follow.published s.lights.fixtures[n] s.follow.values[n] := by
  have hfixture := frameStart_fixture (s := s) n
  rw [frameStart_lights] at hfixture
  rw [frameStart_follow]
  simp only [Fin.getElem_fin, Vector.getElem_ofFn] at hfixture ⊢
  rw [hfixture]
  rfl

theorem published_get (published : Vector (Option Rgb) 16) (r : Fin 16) :
    ((some r.val).bind fun r => (published[r]?).join) = published[r] := by simp

/-! ## Averages (R148) -/

theorem frameEndWork_published (order : FrameEndOrder) (s : State) (i : Fin 16) :
    (frameEndWork order s).follow.published[i] = publish s.comp s.comp.look.regions[i] s.follow.running[i] := by
  have hstage : (frameEndWork order s).follow.published =
      (Stage.publishes s.comp ((walked s).settled s.timing.frame).checked).follow.published :=
    congrArg (fun v : Stage => v.follow.published) (stage_frameEndWork order s)
  have hwalk : (walked s).follow = { s.follow with values := (walked s).follow.values } :=
    fires_follow (stage s) (dueCues s)
  have hfollow : (walked s).follow.running = s.follow.running := by rw [hwalk]
  rw [hstage]
  simp only [Stage.publishes, Stage.checked, Stage.settled, hfollow, Fin.getElem_fin, Vector.getElem_ofFn]

theorem publish_eq (l : FrameLatch) (r : Region) (x : RegionSum) :
    publish l r x =
      if r.width ≠ 0 ∧ r.height ≠ 0 ∧ l.source ≠ .none ∧ x.count ≠ 0 then
        some { r := x.sum.r / x.count, g := x.sum.g / x.count, b := x.sum.b / x.count }
      else none := by
  refine if_congr ?_ rfl rfl
  rw [Bool.and_eq_true, Bool.and_eq_true, r.defined_iff, bne_iff_ne, bne_iff_ne, and_assoc, and_assoc]

/-! ## What a frame start makes of regions and follow values -/

/-- R146, R147: a region of the frame that a latch stands for. -/
theorem measureRegion_spec {t : State} {r : Region} {fill : Rgb} {x : RegionSum}
    (hx : x = measureRegion t.comp t.store.pages r) (hfill : t.comp.fill = fill)
    (hraster : ∀ p, t.comp.source = .page p → t.comp.raster = t.store.pages[p].size) :
    (r.width = 0 ∨ r.height = 0 ∨ t.comp.source = .none → x = { sum := Rgb.all 0, count := 0 })
      ∧ (r.width ≠ 0 → r.height ≠ 0 →
          (t.comp.source = .fill →
              x.count = r.width * r.height ∧ x.sum.r = x.count * fill.r ∧ x.sum.g = x.count * fill.g
                ∧ x.sum.b = x.count * fill.b)
            ∧ ∀ p : Fin 3, ∀ w h : Nat, t.comp.source = .page p → t.store.pages[p].size = some (w, h) →
              let xs := (List.range w).filter fun n : Nat => decide (r.x ≤ (n : Int) ∧ (n : Int) < r.x + r.width)
              let ys := (List.range h).filter fun n : Nat => decide (r.y ≤ (n : Int) ∧ (n : Int) < r.y + r.height)
              let total (channel : Rgb → Nat) : Nat :=
                (ys.map fun y => (xs.map fun n => channel (t.store.pages[p].pixel n y)).sum).sum
              x.count = xs.length * ys.length ∧ x.sum.r = total Rgb.r ∧ x.sum.g = total Rgb.g
                ∧ x.sum.b = total Rgb.b) := by
  subst hx hfill
  refine ⟨measureRegion_nothing, fun hw hh => ⟨measureRegion_fill (r.defined_iff.mpr ⟨hw, hh⟩), ?_⟩⟩
  intro p w h hsource hsize
  exact measureRegion_page (r.defined_iff.mpr ⟨hw, hh⟩) hsource ((hraster p hsource).trans hsize)

theorem stepFollowValue_follows {published : Vector (Option Rgb) 16} {f : Fixture} {r : Fin 16} {a : Rgb}
    (hp : f.present = true) (ho : f.followOn = true) (hr : f.region = some r.val) (ha : published[r] = some a) (v : Rgb) :
    stepFollowValue published f v = Rgb.zip (followNext f.gain f.rate) v a := by
  rw [stepFollowValue, if_pos (by rw [hp, ho]; rfl), hr, published_get, ha]

theorem stepFollowValue_stays {published : Vector (Option Rgb) 16} {f : Fixture}
    (h : f.present = false ∨ f.followOn = false ∨ f.region = none
      ∨ ∃ r : Fin 16, f.region = some r.val ∧ published[r] = none) (v : Rgb) : stepFollowValue published f v = v := by
  unfold stepFollowValue
  split
  · next hf =>
    obtain ⟨hp, ho⟩ := (Bool.and_eq_true _ _).mp hf
    obtain h | h | h | ⟨r, hr, hnone⟩ := h
    · rw [hp] at h
      exact absurd h (by decide)
    · rw [ho] at h
      exact absurd h (by decide)
    · rw [h]
      rfl
    · rw [hr, published_get, hnone]
  · rfl

end Sys2Proof.Machine
end

section
/-! The zones at a frame end, as the manual spells them (R98–R106), and the statement on both frame events. -/

namespace Sys2Proof.Machine

/-- R101: a level counter's run. -/
theorem countRun_runs (e : Option Int) (limit : Int) (n : Nat) :
    (∀ x, e = some x → limit ≤ x → countRun (atOrAbove e limit) n = min 255 (n + 1))
      ∧ (∀ x, e = some x → x < limit → countRun (atOrAbove e limit) n = 0)
      ∧ (e = none → countRun (atOrAbove e limit) n = 0) := by
  refine ⟨?_, ?_, ?_⟩
  · rintro x rfl h
    simp [countRun, atOrAbove, h]
  · rintro x rfl h
    simp [countRun, atOrAbove, h]
  · rintro rfl
    rfl

/-- R99, Table 6-3: what a position gives. -/
theorem contribution_iff (ports : Vector ChainPort 8) (cfg : ThermalConfig) (slot : Fin 128) (x : Int) :
    let place := ports[(⟨slot.val / 16, by omega⟩ : Fin 8)].reports[(⟨slot.val % 16, by omega⟩ : Fin 16)]
    contribution cfg.warnHigh (ports[slotChain slot]).reports[slotPosition slot] = some x ↔
      if place.silent = true then x = cfg.warnHigh
      else ∃ r, place.last = some r ∧ (r.reading = some x ∨ r.reading = none ∧ x = cfg.warnHigh) :=
  contribution_eq_some_iff cfg.warnHigh _ x

/-- R103: the down counter while its zone stays. -/
theorem countDown_all {cfg : ThermalConfig} {r : Zone} {t : Int} (h : leaveThreshold cfg r.state = some t)
    (e : Option Int) :
    countDown cfg e r = if e.all fun x => decide (x < t - cfg.hysteresis) then min 255 (r.down + 1) else 0 := by
  rw [countDown_of h, isCool_eq]
  rfl

section
variable (order : FrameEndOrder) (s : State) (z : Fin 16)

/-- R99, R100: the temperature of a zone after a frame end. -/
theorem frameEndWork_temp :
    (order.thermalFirst = true → (frameEndWork order s).thermal.zones[z].temp = effectiveTemp s z)
      ∧ (order.thermalFirst = false →
        (frameEndWork order s).thermal.zones[z].temp = effectiveTemp { s with ports := (frameEndWork order s).ports } z) := by
  obtain ⟨-, htemp, -⟩ := frameEndWork_zone_fields order s z
  obtain ⟨-, hcounted, -⟩ := zoneCounted_fields order s z
  have h : (frameEndWork order s).thermal.zones[z].temp = zoneTempAt order s z := htemp.trans hcounted
  rw [h, zoneTempAt]
  exact ⟨fun hfirst => if_pos hfirst, fun hfirst => if_neg (by rw [hfirst]; decide)⟩

/-- R105: a scale rises by at most the recovery step. -/
theorem frameEndWork_scale_rise :
    (frameEndWork order s).thermal.zones[z].scale ≤ s.thermal.zones[z].scale + s.thermal.config.recoveryStep := by
  obtain ⟨x, hscale, hx⟩ := frameEndWork_zoneScale order s z
  have hle : ∀ target step, moveScale x target step ≤ x + step := fun target step => by
    unfold moveScale
    split <;> omega
  have hxle : x ≤ s.thermal.zones[z].scale := by
    obtain rfl | ⟨rfl, -⟩ := hx
    · exact le_rfl
    · exact Nat.zero_le _
  rw [hscale]
  exact (hle _ _).trans (Nat.add_le_add_right hxle _)

end

/-- Settles O43. -/
theorem thermalAndFollowFrameEnd : Obligations.ThermalAndFollowFrameEnd := by
  refine ⟨fun s => ?_, fun order s hact hheld => ?_⟩
  · intro t
    refine ⟨fun href hact => congrArg Host.Outcome.next (if_pos ((freeRunReady_iff _).mpr ⟨href, hact⟩)), fun i => ?_,
      fun n => ?_⟩
    · obtain ⟨-, -, hfill, -⟩ := frameStart_latch (s := s)
      exact measureRegion_spec (frameStart_running s i) hfill fun p => frameStart_raster
    · have hvalue : t.follow.values[n] = _ := frameStart_followValue s n
      intro f v moved
      have hmoved : ∀ v a, followNext f.gain f.rate v a = moved v a := followNext_eq f.gain f.rate
      refine ⟨fun r a hp ho hr ha => ?_, fun h => ?_⟩
      · rw [hvalue, stepFollowValue_follows hp ho hr ha, Rgb.zip, hmoved, hmoved, hmoved]
      · rw [hvalue, stepFollowValue_stays h]
  refine ⟨_, exec_outputFrameEnd_free hact hheld order, fun i => ?_, fun z => ?_⟩
  · have hpublished : (endFrame (frameEndWork order s)).follow.published[i] = _ := frameEndWork_published order s i
    intro r x valid
    rw [hpublished, publish_eq]
    exact ⟨fun h => if_pos h, fun h => if_neg h⟩
  intro r q cfg runs down target member gives highest
  obtain ⟨hstate, htemp, hmembers, hwarm, hhot, hshut, hdown⟩ := frameEndWork_zone_fields order s z
  obtain ⟨hcstate, hctemp, hcmembers, hcwarm, hchot, hcshut, hcdown⟩ := zoneCounted_fields order s z
  obtain ⟨hbefore, hafter⟩ := frameEndWork_temp order s z
  have hrises := fun {st e} => frameEndWork_rises order s z (st := st) (e := e)
  have hdark := frameEndWork_scale_dark order s z
  have hlit := frameEndWork_scale_lit order s z
  have hrise := frameEndWork_scale_rise order s z
  have hq : (frameEndWork order s).thermal.zones[z] = q := rfl
  have hports : (endFrame (frameEndWork order s)).ports = (frameEndWork order s).ports := rfl
  have hthermal : (endFrame (frameEndWork order s)).thermal = (frameEndWork order s).thermal := rfl
  have hevents : (endFrame (frameEndWork order s)).events = (frameEndWork order s).events := rfl
  rw [hports, hthermal, hevents]
  rw [hq] at hstate htemp hmembers hwarm hhot hshut hdown hbefore hafter hrises hdark hlit hrise
  clear_value q
  generalize zoneCounted order s z = c at *
  rw [← hctemp, ← htemp] at hcwarm hchot hcshut hcdown
  replace hcstate : c.state = r.state := hcstate
  have hhighest : ∀ ports, q.temp = zoneTemp ports s.comp cfg z → highest ports := fun ports h => by
    obtain ⟨hsome, hnone⟩ := zoneTemp_spec ports s.comp cfg z
    rw [← h] at hsome hnone
    have hgives : ∀ slot x, contribution cfg.warnHigh (ports[slotChain slot]).reports[slotPosition slot] = some x ↔
        gives ports slot x := contribution_iff ports cfg
    have hmember : ∀ slot, isMember s.comp z slot = true ↔ member slot := isMember_iff s.comp z
    simp only [hgives, hmember] at hsome
    simp only [ne_eq, hgives, hmember] at hnone
    exact ⟨hsome, hnone⟩
  have hcool : ∀ limit, leaveThreshold cfg r.state = some limit → c.down = down limit := fun limit h =>
    hcdown.trans (countDown_all h q.temp)
  have hstay : ∀ {st limit}, leaveThreshold cfg st = some limit → q.state = st → r.state = st → q.down = down limit :=
    fun hlimit hto hfrom => by
      rw [hdown, if_pos (by rw [hto, hcstate, hfrom]), hcool _ (by rw [hfrom]; exact hlimit)]
  have hhot' : r.state = .hot → q.shut < cfg.deglitch →
      q.state = if cfg.deglitch ≤ down cfg.warnHigh then .warm else .hot := fun hr hs => by
    rw [hstate, Zone.settled_hot (hcstate.trans hr) (hshut ▸ hs), hcool cfg.warnHigh (by rw [hr]; rfl)]
    split
    · rfl
    · exact hcstate.trans hr
  have hwarm' : r.state = .warm → q.shut < cfg.deglitch → q.hot < cfg.deglitch →
      q.state = if cfg.deglitch ≤ down cfg.warnLow then .normal else .warm := fun hr hs hh => by
    rw [hstate, Zone.settled_warm (hcstate.trans hr) (hshut ▸ hs) (hhot ▸ hh), hcool cfg.warnLow (by rw [hr]; rfl)]
    split
    · rfl
    · exact hcstate.trans hr
  have hshut' : r.state = .shutdown →
      q.state = if cfg.recovery = .auto ∧ cfg.deglitch ≤ down cfg.shutdown then .hot else .shutdown := fun hr => by
    rw [hstate, Zone.settled_shutdown (hcstate.trans hr), hcool cfg.shutdown (by rw [hr]; rfl)]
    split
    · rfl
    · exact hcstate.trans hr
  refine ⟨fun h => ⟨hhighest _ (hbefore h), hbefore h⟩, fun h => ⟨hhighest _ (hafter h), hafter h⟩,
    hmembers.trans hcmembers, ?_, ?_, ?_, fun hr h => ?_, fun hr hs h => ?_, fun hr hs hh h => ?_, fun hr hs hh hw => ?_,
    fun hr => ?_, hhot', hwarm', hshut', fun h => ?_, hstay rfl, hstay rfl, hstay rfl, fun h => hdark (.inl h),
    fun hglobal hany => hdark (.inr ⟨hglobal, hany⟩), fun h => ?_, hrise⟩
  · rw [hwarm, hcwarm]
    exact countRun_runs q.temp cfg.warnLow r.warm
  · rw [hhot, hchot]
    exact countRun_runs q.temp cfg.warnHigh r.hot
  · rw [hshut, hcshut]
    exact countRun_runs q.temp cfg.shutdown r.shut
  · exact hrises (upTarget_shutdown (by rw [hcstate]; exact hr) (hshut ▸ h)) rfl
  · exact hrises (upTarget_hot (by rw [hcstate]; exact hr) (hshut ▸ hs) (hhot ▸ h)) rfl
  · exact hrises (upTarget_warm (hcstate.trans hr) (hshut ▸ hs) (hhot ▸ hh) (hwarm ▸ h)) rfl
  · rw [hstate, Zone.settled_normal (hcstate.trans hr) (hshut ▸ hs) (hhot ▸ hh) (hwarm ▸ hw), hcstate, hr]
  · rw [hshut' hr]
    split
    · next h => exact .inr ⟨h.1, rfl⟩
    · exact .inl rfl
  · rw [hdown]
    split
    · next he =>
      have hr := h.resolve_left fun hne => hne (he.trans hcstate)
      rw [hcdown, countDown, hr]
      rfl
    · rfl
  · have htarget : stateTarget cfg q.state = target := by
      simp only [target]
      cases q.state <;> rfl
    rw [hlit h, htarget]
    rfl

end Sys2Proof.Machine
end

section
/-! The completion of a check, and the frame end that brings it (R39, R40). -/

namespace Sys2Proof.Machine

/-! ## The first failure (R39) -/

/-- The first place at which a test holds. -/
theorem placesWhere_first {α : Type} {n : Nat} {p : α → Bool} {v : Vector α n} {x : Fin n} (hx : p v[x] = true)
    (hbefore : ∀ j < x, p v[j] = false) : ∃ xs, placesWhere p v = x :: xs := by
  cases hp : placesWhere p v with
  | nil => exact absurd ((placesWhere_eq_nil p v).mp hp x) (by rw [hx]; decide)
  | cons y xs =>
    obtain ⟨hy, hbeforeY⟩ := placesWhere_eq_cons hp
    obtain hlt | rfl | hgt := lt_trichotomy x y
    · exact absurd (hbeforeY x hlt) (by rw [hx]; decide)
    · exact ⟨xs, rfl⟩
    · exact absurd (hbefore y hgt) (by rw [hy]; decide)

theorem tileFails_iff (types : Vector (Option TileType) 8) (t : TileEntry) :
    tileFails types t = true ↔
      t.present = true ∧ (t.typeId ≥ 8 ∨ ∃ k : Fin 8, k.val = t.typeId ∧ types[k] = none) := by
  rw [tileFails, Bool.and_eq_true, Option.isNone_iff_eq_none]
  refine and_congr_right fun _ => ?_
  by_cases h : t.typeId < 8
  · have hat : typeAt types t.typeId = types[(⟨t.typeId, h⟩ : Fin 8)] := typeAt_getElem types ⟨t.typeId, h⟩
    rw [hat]
    refine ⟨fun hnone => .inr ⟨⟨t.typeId, h⟩, rfl, hnone⟩, ?_⟩
    rintro (hge | ⟨k, hk, hnone⟩)
    · omega
    · obtain rfl : k = ⟨t.typeId, h⟩ := Fin.ext hk
      exact hnone
  · have hat : typeAt types t.typeId = none := by
      rw [typeAt, Vector.getElem?_eq_none (by omega)]
      rfl
    exact ⟨fun _ => .inl (by omega), fun _ => hat⟩

theorem curveRising_eq_false_iff (curve : Vector Nat 33) :
    curveRising curve = false ↔ ∃ k : Fin 32, curve[k.val + 1] < curve[k.val] := by
  have hpoint : ∀ k (h : k < 33), pointAt curve k = curve[k] := fun k h => by
    rw [pointAt, Vector.getElem?_eq_getElem h]
    rfl
  rw [curveRising, List.all_eq_false]
  constructor
  · rintro ⟨k, hk, hfalls⟩
    have hlt := List.mem_range.mp hk
    rw [decide_eq_true_eq, hpoint k (by omega), hpoint (k + 1) (by omega)] at hfalls
    exact ⟨⟨k, hlt⟩, not_le.mp hfalls⟩
  · rintro ⟨k, hfalls⟩
    refine ⟨k, List.mem_range.mpr k.isLt, ?_⟩
    rw [decide_eq_true_eq, hpoint k (by omega), hpoint (k + 1) (by omega)]
    omega

section
variable {types : Vector (Option TileType) 8} {look : Look}

theorem firstFailure_undefined {j : Fin 128} (hj : tileFails types look.tiles[j] = true)
    (hbefore : ∀ i < j, tileFails types look.tiles[i] = false) :
    firstFailure types look = some (.undefinedType j.val) := by
  obtain ⟨xs, hxs⟩ := placesWhere_first hj hbefore
  rw [firstFailure, hxs]

theorem firstFailure_decreasing (hno : ∀ i : Fin 128, tileFails types look.tiles[i] = false) {c : Fin 8}
    (hc : curveRising look.curves[c] = false) (hbefore : ∀ d < c, curveRising look.curves[d] = true) :
    firstFailure types look = some (.decreasing c.val) := by
  obtain ⟨xs, hxs⟩ := placesWhere_first (p := fun c => !curveRising c) (v := look.curves) (x := c) (by rw [hc]; rfl)
    fun d hd => by rw [hbefore d hd]; rfl
  rw [firstFailure, (placesWhere_eq_nil _ _).mpr hno, hxs]

end

/-- R40: what a completed check records. -/
theorem LookStore.completeCheck_eq (l : LookStore) :
    (firstFailure l.types l.stagedLook = none → l.completeCheck.staged = .checked ∧ l.completeCheck.result = .passed)
      ∧ ∀ why, firstFailure l.types l.stagedLook = some why →
        l.completeCheck.staged = .editing ∧ l.completeCheck.result = .failed why := by
  simp only [LookStore.completeCheck, checkOutcome, stagedAfterCheck]
  refine ⟨fun h => ?_, fun why h => ?_⟩ <;> rw [h] <;> exact ⟨rfl, rfl⟩

/-! ## The frame end of a running check (R40) -/

section
variable (order : FrameEndOrder) {s : State}

theorem cuesFrameEnd_looks (hs : s.looks.staged ≠ .checked) :
    (cuesFrameEnd { state := s, left := some order.countAt }).state.looks = s.looks := by
  have hstage := congrArg Stage.looks (stage_cuesFrameEnd order s)
  have hwalk : ((dueCues s).foldl Stage.fire (stage s)).looks = _ :=
    (fires_looks (stage s) (dueCues s)).trans (foldl_swaps_skipped hs (dueCues s))
  exact hstage.trans hwalk

/-- R40: a check that still runs at the second frame end completes together with it. -/
theorem frameEndWork_checkDone (hs : s.looks.staged = .checking) (hends : s.looks.checkEnds ≠ 0) :
    (frameEndWork order s).events.has .checkDone = true := by
  refine frameEndWork_has_of_blocks (blocksFrameEnd_has_of order ?_)
  unfold checkedWork
  refine EndWork.act_reach (P := fun s => s.events.has .checkDone = true) (Q := fun u => u.looks = s.looks) ?_
    (fun u hu => ?_) (fun u hu => ?_)
  · exact cuesFrameEnd_looks order (by rw [hs]; decide)
  · rw [checkFrameEnd, hu, if_pos hs, if_neg hends]
    exact completeCheck_has u
  · rw [countFrame_looks, hu]

end

theorem frameEnd_looks (order : FrameEndOrder) (s : State) : (frameEnd order s).looks = (frameEndWork order s).looks := by
  have hended : (endFrame (frameEndWork order s)).looks = (frameEndWork order s).looks := by simp only [endFrame]
  obtain ⟨-, -, hstart, -⟩ := frameStart_others (endFrame (frameEndWork order s))
  rw [frameEnd_eq]
  split
  · rw [hstart, hended]
  · exact hended

/-- Settles O24. -/
theorem checkCompletionRecords : Obligations.CheckCompletionRecords := by
  intro s look bad falls
  have hbad : ∀ j, bad j ↔ tileFails s.looks.types look.tiles[j] = true := fun j => (tileFails_iff _ _).symm
  have hgood : ∀ j, ¬ bad j → tileFails s.looks.types look.tiles[j] = false := fun j h => by
    rw [← Bool.not_eq_true, ← hbad]
    exact h
  have hfalls : ∀ c, falls c ↔ curveRising look.curves[c] = false := fun c => (curveRising_eq_false_iff _).symm
  have hrises : ∀ c, ¬ falls c → curveRising look.curves[c] = true := fun c h => by
    rw [← Bool.not_eq_false, ← hfalls]
    exact h
  obtain ⟨hpassed, hfailed⟩ := s.looks.completeCheck_eq
  refine ⟨fun h => congrArg Host.Outcome.next (if_neg h), fun h => ?_, fun order hact h => ?_⟩
  · have hlooks := completeCheck_looks s
    refine ⟨completeCheck s, congrArg Host.Outcome.next (if_pos h), completeCheck_has s, ?_, by simp [completeCheck],
      by simp [completeCheck], by simp [completeCheck], by simp [completeCheck], by simp [completeCheck], ?_⟩
    · rw [hlooks]
      rfl
    · rw [hlooks]
      refine ⟨fun hno hrise => hpassed ?_, fun j hj hbefore => hfailed _ ?_, fun hno c hc hbefore => hfailed _ ?_⟩
      · exact (firstFailure_eq_none_iff _ _).mpr ⟨fun i => hgood i (hno i), fun c => hrises c (hrise c)⟩
      · exact firstFailure_undefined ((hbad j).mp hj) fun i hi => hgood i (hbefore i hi)
      · exact firstFailure_decreasing (fun i => hgood i (hno i)) ((hfalls c).mp hc) fun d hd => hrises d (hbefore d hd)
  · have hlooks : (frameEnd order s).looks = s.looks.atFrameEnd :=
      (frameEnd_looks order s).trans (frameEndWork_looks_skipped order s (by rw [h]; decide))
    refine ⟨_, _, exec_outputFrameEnd hact order, congrArg Host.Outcome.next (if_pos h), fun hends => ?_,
      fun hends => ⟨?_, frameEnd_has_of (frameEndWork_checkDone order h hends)⟩⟩
    · rw [hlooks, LookStore.atFrameEnd, if_pos h, if_pos hends]
    · rw [hlooks, LookStore.atFrameEnd, if_pos h, if_neg hends, completeCheck_looks]

end Sys2Proof.Machine
end

section
/-! The event unit over an output frame end: raisings, and one count among them (R173, R175). -/

namespace Sys2Proof.Machine

/-! ## Steps that reach the event unit by raisings alone -/

/-- What raisings keep, and what rests on the event unit and the queues of the lanes alone. -/
structure EventClosed (P : State → Prop) : Prop where
  raise : ∀ e s, P s → P (raise e s)
  ground : ∀ s t, t.events = s.events → t.ret = s.ret → t.intake = s.intake → P s → P t

/-- R175: a step of a block reaches the event unit by raisings alone. -/
def EventStep (f : State → State) : Prop := ∀ P, EventClosed P → ∀ s, P s → P (f s)

theorem EventStep.of_still {f : State → State}
    (h : ∀ s, (f s).events = s.events ∧ (f s).ret = s.ret ∧ (f s).intake = s.intake) : EventStep f := fun _ hP s hs => by
  obtain ⟨hevents, hret, hintake⟩ := h s
  exact hP.ground s _ hevents hret hintake hs

theorem portSteps_eventStep (c : Fin 8) (p : ChainPort) : ∀ f ∈ portSteps c p, EventStep f := fun f hf _ hP =>
  portSteps_keeps hP.raise (fun s _ _ _ => hP.ground s _ rfl rfl rfl) c p f hf

theorem evaluateZone_eventStep (z : Fin 16) : EventStep (evaluateZone z) := fun _ hP _ =>
  evaluateZone_keeps hP.raise (fun s _ _ => hP.ground s _ rfl rfl rfl) z

theorem evaluateLimiter_eventStep (c : Fin 8) : EventStep (evaluateLimiter c) := fun _ hP s h => by
  unfold evaluateLimiter
  split
  · exact raiseWhen_keeps hP.raise _ _ (hP.ground s _ rfl rfl rfl h)
  · exact hP.ground s _ rfl rfl rfl h

theorem raiseWhen_eventStep (b : Bool) (e : Source) : EventStep (raiseWhen b e) := fun _ hP _ =>
  raiseWhen_keeps hP.raise b e

theorem firingSteps_eventStep (c : Cue) : ∀ f ∈ firingSteps c, EventStep f := fun f hf _ hP =>
  firingSteps_keepsRest hP.raise (fun s _ _ _ _ _ => hP.ground s _ rfl rfl rfl) c f hf

theorem checkFrameEnd_eventStep : EventStep checkFrameEnd := fun _ hP _ =>
  checkFrameEnd_keepsRest hP.raise fun s _ _ _ _ _ => hP.ground s _ rfl rfl rfl

/-! ## A frame end as such steps -/

theorem EndWork.foldl_closed {R : EndWork → Prop} {β : Type} {step : EndWork → β → EndWork} (hstep : ∀ w x, R w → R (step w x)) (xs : List β)
    {w : EndWork} (h : R w) : R (xs.foldl step w) := by
  induction xs generalizing w with
  | nil => exact h
  | cons x xs ih => exact ih (hstep w x h)

section
variable {R : EndWork → Prop} (hR : ∀ w f, EventStep f → R w → R (w.act f))
include hR

theorem actAll_closed {fs : List (State → State)} (hfs : ∀ f ∈ fs, EventStep f) {w : EndWork} (h : R w) :
    R (w.actAll fs) := by
  induction fs generalizing w with
  | nil => exact h
  | cons f fs ih =>
    exact ih (fun g hg => hfs g (List.mem_cons_of_mem f hg)) (hR w f (hfs f List.mem_cons_self) h)

theorem portsFrameEnd_closed {w : EndWork} (h : R w) : R (portsFrameEnd w) :=
  EndWork.foldl_closed (fun _ c h => actAll_closed hR (portSteps_eventStep c _) h) _ h

theorem thermalFrameEnd_closed {w : EndWork} (h : R w) : R (thermalFrameEnd w) := by
  refine hR _ moveScales (.of_still fun s => ⟨rfl, rfl, rfl⟩) (actAll_closed hR (fun f hf => ?_) h)
  obtain ⟨z, -, rfl⟩ := List.mem_map.mp hf
  exact evaluateZone_eventStep z

theorem powerFrameEnd_closed {w : EndWork} (h : R w) : R (powerFrameEnd w) :=
  EndWork.foldl_closed (fun w c h => hR _ _ (raiseWhen_eventStep _ _) (hR w _ (evaluateLimiter_eventStep c) h)) _ h

theorem blocksFrameEnd_closed (order : FrameEndOrder) {w : EndWork} (h : R w) : R (blocksFrameEnd order w) := by
  have hports : ∀ {w}, R w → R (portsFrameEnd w) := fun h => portsFrameEnd_closed hR h
  have hthermal : ∀ {w}, R w → R (thermalFrameEnd w) := fun h => thermalFrameEnd_closed hR h
  have hpower : ∀ {w}, R w → R (powerFrameEnd w) := fun h => powerFrameEnd_closed hR h
  rw [blocksFrameEnd_eq]
  split
  · exact hports (hthermal (hpower h))
  · exact hthermal (hports (hpower h))
  · exact hpower (hports (hthermal h))
  · exact hpower (hthermal (hports h))

theorem checkedWork_closed {order : FrameEndOrder} {s : State} (h : R { state := s, left := some order.countAt }) :
    R (checkedWork order s) := by
  unfold checkedWork cuesFrameEnd
  refine hR _ _ checkFrameEnd_eventStep (hR _ _ (.of_still fun s => ⟨rfl, rfl, rfl⟩) (actAll_closed hR (fun f hf => ?_) h))
  obtain ⟨c, -, hf⟩ := List.mem_flatMap.mp hf
  exact firingSteps_eventStep c f hf

end

/-- What holds of the state of a frame end in progress, before the event unit's count and after it. -/
def EndWork.Stands (B A : State → Prop) (w : EndWork) : Prop :=
  match w.left with
  | some _ => B w.state
  | none => A w.state

theorem EndWork.Stands.act {B A : State → Prop} (hB : EventClosed B) (hA : EventClosed A)
    (hcount : ∀ s, B s → A (countFrame s)) (w : EndWork) (f : State → State) (hf : EventStep f) (h : w.Stands B A) :
    (w.act f).Stands B A := by
  obtain ⟨u, _ | _ | n⟩ := w
  · exact hf A hA u h
  · exact hf A hA _ (hcount u h)
  · exact hf B hB u h

theorem EndWork.Stands.finish {B A : State → Prop} (hcount : ∀ s, B s → A (countFrame s)) {w : EndWork}
    (h : w.Stands B A) : A w.finish := by
  obtain ⟨u, _ | n⟩ := w
  · exact h
  · exact hcount u h

/-- R175: from what holds before the event unit's count to what holds after it. -/
theorem frameEndWork_phases {B A : State → Prop} (hB : EventClosed B) (hA : EventClosed A)
    (hcount : ∀ s, B s → A (countFrame s)) (order : FrameEndOrder) {s : State} (h : B s) : A (frameEndWork order s) := by
  have hact := EndWork.Stands.act hB hA hcount
  have hstart : ({ state := s, left := some order.countAt } : EndWork).Stands B A := h
  rw [frameEndWork_eq]
  exact EndWork.Stands.finish hcount
    (hact _ _ (.of_still fun s => ⟨rfl, rfl, rfl⟩) (blocksFrameEnd_closed hact order (checkedWork_closed hact hstart)))

/-! ## With no slot free (R175) -/

theorem dueTest_of_full {s : State} (hf : s.ret.free = 0) (v : EventUnit) :
    dueTest (s.setEvents v) = s.setEvents v.testDue := by
  rw [dueTest, tryNotice, if_neg]
  · rfl
  · rw [Bool.and_eq_true, bne_iff_ne]
    exact fun ⟨_, hfree⟩ => hfree hf

/-- R173, R175: with no slot free a raising leaves the frame count and clears nothing. -/
theorem raise_full (e : Source) {s : State} (hf : s.ret.free = 0) :
    (raise e s).ret = s.ret ∧ (raise e s).events.frames = s.events.frames
      ∧ (raise e s).events.frameThreshold = s.events.frameThreshold
      ∧ (s.events.pending ≠ 0 → (raise e s).events.pending ≠ 0)
      ∧ (s.events.due = true → (raise e s).events.due = true) := by
  unfold raise
  split
  · exact ⟨rfl, rfl, rfl, id, id⟩
  · split
    · rw [dueTest_of_full hf]
      refine ⟨rfl, rfl, rfl, fun _ => ?_, fun hd => ?_⟩
      · simp [EventUnit.testDue, EventUnit.raiseGroup]
      · simp [EventUnit.testDue, EventUnit.raiseGroup, EventUnit.setFlag, hd]
    · exact ⟨rfl, rfl, rfl, id, id⟩

/-- R175: a frame end counts a pending raising once, whatever is raised, while no slot is free. -/
theorem frameEndWork_frames (order : FrameEndOrder) {s : State} (hp : s.events.pending ≠ 0) (hf : s.ret.free = 0) :
    (frameEndWork order s).events.frames = min 255 (s.events.frames + 1)
      ∧ (s.events.frameThreshold ≤ min 255 (s.events.frames + 1) → (frameEndWork order s).events.due = true) := by
  have hcounted := frameEndWork_phases
    (B := fun u => u.ret.free = 0 ∧ u.events.pending ≠ 0 ∧ u.events.frames = s.events.frames
      ∧ u.events.frameThreshold = s.events.frameThreshold)
    (A := fun u => u.ret.free = 0 ∧ u.events.frames = min 255 (s.events.frames + 1)
      ∧ (s.events.frameThreshold ≤ min 255 (s.events.frames + 1) → u.events.due = true))
    ⟨fun e u hu => ?_, fun u t hevents hret _ hu => ?_⟩ ⟨fun e u hu => ?_, fun u t hevents hret _ hu => ?_⟩
    (fun u hu => ?_) order ⟨hf, hp, rfl, rfl⟩
  · exact hcounted.2
  · obtain ⟨hfree, hpending, hframes, hthreshold⟩ := hu
    obtain ⟨hret, hframes', hthreshold', hpending', -⟩ := raise_full e hfree
    exact ⟨by rw [hret, hfree], hpending' hpending, hframes'.trans hframes, hthreshold'.trans hthreshold⟩
  · rw [hevents, hret]
    exact hu
  · obtain ⟨hfree, hframes, hdue⟩ := hu
    obtain ⟨hret, hframes', -, -, hdue'⟩ := raise_full e hfree
    exact ⟨by rw [hret, hfree], hframes'.trans hframes, fun h => hdue' (hdue h)⟩
  · rw [hevents, hret]
    exact hu
  · obtain ⟨hfree, hpending, hframes, hthreshold⟩ := hu
    have hcount : u.events.countFrame = { u.events with frames := min 255 (s.events.frames + 1) } := by
      rw [EventUnit.countFrame, if_neg hpending, hframes]
    rw [countFrame, hcount, dueTest_of_full hfree]
    refine ⟨hfree, rfl, fun h => ?_⟩
    have hreached : ({ u.events with frames := min 255 (s.events.frames + 1) } : EventUnit).reached = true :=
      (EventUnit.reached_iff _).mpr (.inr (by rw [← hthreshold] at h; exact h))
    exact (Bool.or_eq_true _ _).mpr (.inr hreached)

/-! ## With nothing raised (R175, R176) -/

/-- What holds of a state with the flags of `s`, and is claimed of no other. -/
def Unraised (s : State) (Q : State → Prop) (u : State) : Prop :=
  (∀ e, s.events.has e = true → u.events.has e = true) ∧ (u.events.flags = s.events.flags → Q u)

/-- R173: a raising changes nothing, or leaves a flag behind. -/
theorem Unraised.closed {s : State} {Q : State → Prop}
    (hQ : ∀ u t, t.events = u.events → t.ret = u.ret → t.intake = u.intake → Q u → Q t) :
    EventClosed (Unraised s Q) := by
  refine ⟨fun e u ⟨hhas, hu⟩ => ?_, fun u t hevents hret hintake ⟨hhas, hu⟩ => ⟨?_, fun h => ?_⟩⟩
  · cases he : u.events.has e with
    | true =>
      rw [show raise e u = u from if_pos he]
      exact ⟨hhas, hu⟩
    | false =>
      refine ⟨fun x hx => raise_has_of e (hhas x hx), fun h => ?_⟩
      have hs : s.events.has e = true := by
        rw [EventUnit.has, ← h]
        exact raise_has e u
      exact absurd (hhas e hs) (by rw [he]; decide)
  · rw [hevents]
    exact hhas
  · rw [hevents] at h
    exact hQ u t hevents hret hintake (hu h)

end Sys2Proof.Machine
end

section
/-! A frame end that raises nothing (R173, R175, R176). -/

namespace Sys2Proof.Machine

/-! ## The event unit and the lanes where no flag was set -/

/-- R175: the frame count after a frame end's count. -/
def countedFrames (u : EventUnit) : Nat := if u.pending = 0 then u.frames else min 255 (u.frames + 1)

theorem EventUnit.countFrame_eq (u : EventUnit) : u.countFrame = { u with frames := countedFrames u } := by
  unfold EventUnit.countFrame countedFrames
  split <;> rfl

/-- R175: a threshold is reached after a frame end's count. -/
def ReachedAtEnd (u : EventUnit) : Prop := u.countThreshold ≤ u.pending ∨ u.frameThreshold ≤ countedFrames u

/-- R175, R176: the event unit and the return lane after the count, with nothing raised. -/
def CountedQuietly (s t : State) : Prop :=
  (¬ ReachedAtEnd s.events → s.events.due = false →
      t.events = { s.events with frames := countedFrames s.events } ∧ t.ret = s.ret)
    ∧ (ReachedAtEnd s.events ∨ s.events.due = true → s.ret.free = 0 →
        t.events = { s.events with frames := countedFrames s.events, due := true } ∧ t.ret = s.ret)
    ∧ (ReachedAtEnd s.events ∨ s.events.due = true → s.ret.free ≠ 0 →
        t.events = { s.events with groups := 0, pending := 0, frames := 0, due := false }
          ∧ ∃ status : Byte,
            let notice := ReturnPacket.notice s.intake.slot0 status (s.events.groups.setWidth 8)
            (s.ret.sending.isSome = true → t.ret = { s.ret with own := s.ret.own ++ [notice] })
              ∧ (s.ret.sending = none → s.ret.own = [] → s.ret.pass = [] →
                  t.ret = { s.ret with last := .own, sending := some notice.bytes }))

theorem countFrame_quiet {s u : State} (hevents : u.events = s.events) (hret : u.ret = s.ret)
    (hintake : u.intake = s.intake) : CountedQuietly s (countFrame u) := by
  have hcount : countFrame u = dueTest (u.setEvents { s.events with frames := countedFrames s.events }) := by
    rw [countFrame, hevents, EventUnit.countFrame_eq]
  have hreached : ({ s.events with frames := countedFrames s.events } : EventUnit).reached = true ↔ ReachedAtEnd s.events :=
    EventUnit.reached_iff _
  generalize hv : u.setEvents { s.events with frames := countedFrames s.events } = v at hcount
  have hvEvents : v.events = { s.events with frames := countedFrames s.events } := by rw [← hv]; rfl
  have hvRet : v.ret = s.ret := by rw [← hv, ← hret]; rfl
  have hvIntake : v.intake = s.intake := by rw [← hv, ← hintake]; rfl
  have hdue : ReachedAtEnd s.events ∨ s.events.due = true → v.events.reached = true ∨ v.events.due = true := fun h => by
    rw [hvEvents]
    exact h.imp_left hreached.mpr
  rw [hcount]
  refine ⟨fun hno hd => ?_, fun hyes hfree => ?_, fun hyes hfree => ?_⟩
  · rw [dueTest_not_reached (by rw [hvEvents, ← Bool.not_eq_true, hreached]; exact hno) (by rw [hvEvents]; exact hd)]
    exact ⟨hvEvents, hvRet⟩
  · rw [dueTest_full (hdue hyes) (by rw [hvRet]; exact hfree), hvEvents]
    exact ⟨rfl, hvRet⟩
  · rw [dueTest_queued (hdue hyes) (by rw [hvRet]; exact hfree)]
    obtain ⟨hsent, -⟩ := queueNotice_spec (v.setEvents { v.events with due := true })
    refine ⟨hsent.trans ?_, statusByte (v.setEvents { v.events with due := true }), ?_⟩
    · rw [hvEvents]
      rfl
    · intro notice
      have hplace : queueNotice (v.setEvents { v.events with due := true }) =
          placeOwn notice ((v.setEvents { v.events with due := true }).setEvents
            (v.setEvents { v.events with due := true }).events.noticeSent) := by
        simp only [notice]
        rw [queueNotice, ← hvIntake]
        simp [hvEvents]
      have hx : ((v.setEvents { v.events with due := true }).setEvents
          (v.setEvents { v.events with due := true }).events.noticeSent).ret = s.ret := hvRet
      rw [hplace]
      generalize (v.setEvents { v.events with due := true }).setEvents
        (v.setEvents { v.events with due := true }).events.noticeSent = x at hx
      rw [← hx]
      refine ⟨fun hsending => ?_, fun hidle ho hp => ?_⟩
      · have hnotIdle : x.ret.sending = none → x.ret.own = [] ∧ x.ret.pass = [] := fun h => by
          rw [h] at hsending
          exact absurd hsending (by decide)
        exact ((placeOwn_spec notice hnotIdle).1 hsending).1
      · exact ((placeOwn_spec notice fun _ => ⟨ho, hp⟩).2.1 hidle).1

theorem frameEndWork_quiet (order : FrameEndOrder) {s : State}
    (h : (frameEndWork order s).events.flags = s.events.flags) : CountedQuietly s (frameEndWork order s) := by
  have hcounted := frameEndWork_phases
    (B := Unraised s fun u => u.events = s.events ∧ u.ret = s.ret ∧ u.intake = s.intake)
    (A := Unraised s (CountedQuietly s))
    (Unraised.closed fun u t hevents hret hintake hu => by rw [hevents, hret, hintake]; exact hu)
    (Unraised.closed fun u t hevents hret _ hu => by
      unfold CountedQuietly
      rw [hevents, hret]
      exact hu)
    (fun u ⟨hhas, hu⟩ => ⟨fun e he => countFrame_has_of (hhas e he), fun hflags => ?_⟩) order
    ⟨fun _ he => he, fun _ => ⟨rfl, rfl, rfl⟩⟩
  · exact hcounted.2 h
  · rw [countFrame_flags] at hflags
    obtain ⟨hevents, hret, hintake⟩ := hu hflags
    exact countFrame_quiet hevents hret hintake

end Sys2Proof.Machine
end

section
/-! A frame end with no due cue, no check, no port in RUN or ENUMERATE and no tile in a zone raises nothing (R173). -/

namespace Sys2Proof.Machine

/-- A step raises nothing in the states of a condition. -/
theorem act_flags {Q : State → Prop} {f : State → State} {w : EndWork} (h : Q w.state)
    (hc : ∀ s, Q s → Q (countFrame s)) (hf : ∀ s, Q s → (f s).events.flags = s.events.flags) :
    (w.act f).state.events.flags = w.state.events.flags := by
  refine EndWork.act_reach (P := fun s => s.events.flags = w.state.events.flags)
    (Q := fun s => Q s ∧ s.events.flags = w.state.events.flags) ⟨h, rfl⟩ (fun s hs => (hf s hs.1).trans hs.2)
    fun s hs => ⟨hc s hs.1, (countFrame_flags s).trans hs.2⟩

/-! ## The chain ports -/

section
variable {w : EndWork} {c : Fin 8}

theorem portFrameEnd_flags (hrun : (unit c w.state).1.state ≠ .run) (henum : (unit c w.state).1.state ≠ .enumerate) :
    (portFrameEnd w c).state.events.flags = w.state.events.flags := by
  refine EndWork.actAll_keeps (P := fun s => s.events.flags = w.state.events.flags) rfl (fun f hf s hs => ?_)
    fun s hs => (countFrame_flags s).trans hs
  unfold portSteps at hf
  split at hf
  · simp at hf
  · obtain rfl := List.mem_singleton.mp hf
    exact hs
  · next h => exact absurd h henum
  · next h => exact absurd h hrun
  · obtain rfl := List.mem_singleton.mp hf
    unfold failedFrameEnd recoverChain
    split
    · exact hs
    · exact hs

theorem portsFrameEnd_flags (h : ∀ c, (unit c w.state).1.state ≠ .run ∧ (unit c w.state).1.state ≠ .enumerate) :
    (portsFrameEnd w).state.events.flags = w.state.events.flags := by
  unfold portsFrameEnd
  exact foldl_units_invariant (step := portFrameEnd) (π := unit) (u := w.state) (I := fun s => s.events.flags = w.state.events.flags)
    (fun w _ _ h => unit_portFrameEnd_other w h)
    (fun v c hc hv => by
      have hstill := h c
      rw [← hc] at hstill
      exact (portFrameEnd_flags hstill.1 hstill.2).trans hv)
    (List.nodup_finRange 8) (fun _ _ => rfl) rfl

/-- R50–R57: no port enters RUN but by the end of an enumeration. -/
theorem portEnd_not_run {x : ChainPort × Limiter} (hrun : x.1.state ≠ .run) (henum : x.1.state ≠ .enumerate) :
    (portEnd x).1.state ≠ .run := by
  cases hs : x.1.state with
  | off =>
    rw [portEnd_off hs]
    exact hrun
  | probe =>
    rw [portEnd_probe hs]
    simp only [ChainPort.closeProbe]
    split <;> decide
  | enumerate => exact absurd hs henum
  | run => exact absurd hs hrun
  | failed =>
    rw [portEnd_failed hs]
    by_cases hover : recoveryDue x.1.countHoldoff = true
    · rw [holdoffEnd_recovers hover]
      exact (by decide : PortState.probe ≠ PortState.run)
    · rw [holdoffEnd_waits hover]
      exact hrun

/-! ## The limiters -/

theorem powerFrameEndChain_flags (hrun : (unit c w.state).1.state ≠ .run) :
    (powerFrameEndChain w c).state.events.flags = w.state.events.flags := by
  have hnot : ∀ s, unit c s = unit c w.state → evaluated s c = false := fun s hs => by
    have hstate : s.ports[c].state ≠ .run := by
      rw [show s.ports[c] = (unit c w.state).1 from congrArg Prod.fst hs]
      exact hrun
    rw [evaluated, beq_eq_false_iff_ne.mpr hstate, Bool.false_and]
  have hheavy : (evaluated w.state c && raisesHeavy w.state.power.limiters[c].scale (newScale w.state c)) = false := by
    rw [hnot w.state rfl, Bool.false_and]
  simp only [powerFrameEndChain, hheavy]
  refine (act_flags (Q := fun _ => True) trivial (fun _ _ => trivial) fun _ _ => rfl).trans ?_
  refine act_flags (Q := fun s => unit c s = unit c w.state) rfl (fun s hs => (unit_countFrame c s).trans hs) fun s hs => ?_
  rw [evaluateLimiter, hnot s hs]
  rfl

theorem powerFrameEnd_flags (h : ∀ c, (unit c w.state).1.state ≠ .run) :
    (powerFrameEnd w).state.events.flags = w.state.events.flags := by
  unfold powerFrameEnd
  exact foldl_units_invariant (step := powerFrameEndChain) (π := unit) (u := w.state) (I := fun s => s.events.flags = w.state.events.flags)
    (fun w c d h =>
      (EndWork.act_project (π := unit d) (g := id) (unit_countFrame d) (fun s => unit_raiseWhen d s _ _) _).trans
        (EndWork.act_project (g := id) (unit_countFrame d) (unit_evaluateLimiter_other h) w))
    (fun v c hc hv => by
      have hstill := h c
      rw [← hc] at hstill
      exact (powerFrameEndChain_flags hstill).trans hv)
    (List.nodup_finRange 8) (fun _ _ => rfl) rfl

end

/-! ## The zones -/

/-- R98: no slot is a member of any zone, and a single hit moves none. -/
def ZonesEmpty (s : State) : Prop :=
  (∀ x : Fin 128, s.comp.status[x] ≠ .mapped ∧ s.comp.status[x] ≠ .mismatch) ∧ 1 ≤ s.thermal.config.deglitch

theorem ZonesEmpty.upTarget {s : State} (h : ZonesEmpty s) (z : Fin 16) :
    upTarget (zoneView z s).config.deglitch ((zoneView z s).counted z) = none := by
  obtain ⟨hslots, hdeglitch⟩ := h
  have hmembers : (List.finRange 128).filter (isMember s.comp z) = [] := List.filter_eq_nil_iff.mpr fun x _ hx =>
    ((isMember_iff s.comp z x).mp hx).1.elim (hslots x).1 (hslots x).2
  have htemp : zoneTemp s.ports s.comp s.thermal.config z = none := by
    rw [zoneTemp, hmembers]
    rfl
  have hpos : ¬ s.thermal.config.deglitch ≤ 0 := by omega
  simp only [ZoneView.counted, zoneView, htemp, Zone.count, atOrAbove, countRun, Bool.false_eq_true, if_false]
  unfold Machine.upTarget
  dsimp only
  cases s.thermal.zones[z].bare.state <;> simp only [hpos, if_false]

theorem evaluateZone_flags {z : Fin 16} {s : State}
    (h : upTarget (zoneView z s).config.deglitch ((zoneView z s).counted z) = none) :
    (evaluateZone z s).events.flags = s.events.flags := by
  have hup : upTarget (s.modifyZone z fun _ => countedZone s z).thermal.config.deglitch
      (s.modifyZone z fun _ => countedZone s z).thermal.zones[z] = none := by
    rw [modifyZone_self]
    exact h
  rw [evaluateZone_eq, settleZone, hup]
  unfold moveDown
  dsimp only
  split <;> rfl

section
variable {w : EndWork}

theorem thermalFrameEnd_flags (h : ZonesEmpty w.state) :
    (thermalFrameEnd w).state.events.flags = w.state.events.flags := by
  rw [thermalFrameEnd_eq]
  refine (act_flags (Q := fun _ => True) (f := moveScales) (w := (List.finRange 16).foldl zoneStep w) trivial
    (fun _ _ => trivial) fun _ _ => rfl).trans ?_
  refine foldl_units_invariant (step := zoneStep) (π := zoneView) (u := w.state) (I := fun s => s.events.flags = w.state.events.flags)
    (fun w _ _ h => zoneView_zoneStep_other w _ h) (fun v z hz hv => ?_) (List.nodup_finRange 16) (fun _ _ => rfl) rfl
  refine (act_flags (Q := fun s => zoneView z s = zoneView z w.state) hz (fun s hs => (zoneView_countFrame z s).trans hs)
    fun s hs => ?_).trans hv
  have hup := h.upTarget z
  rw [← hs] at hup
  exact evaluateZone_flags hup

end

end Sys2Proof.Machine
end

section
/-! The work of an output frame end does not see whether a frame start is held (R14, R15, R17). -/

namespace Sys2Proof.Machine

/-- R14: the state with no frame start held. -/
def State.unheld (s : State) : State := { s with timing := { s.timing with held := false } }

/-- A step that neither sees nor changes whether a frame start is held. -/
def Blind (f : State → State) : Prop := ∀ s, f s.unheld = (f s).unheld

section
variable {f g : State → State}

theorem Blind.comp (hf : Blind f) (hg : Blind g) : Blind fun s => f (g s) := fun s =>
  (congrArg f (hg s)).trans (hf (g s))

theorem Blind.ite {p : State → Prop} [DecidablePred p] (hp : ∀ s, p s.unheld ↔ p s) (hf : Blind f) (hg : Blind g) :
    Blind fun s => if p s then f s else g s := fun s =>
  (if_congr (hp s) (hf s) (hg s)).trans (apply_ite State.unheld (p s) (f s) (g s)).symm

theorem blind_id : Blind fun s => s := fun _ => rfl

end

/-! ## Raising and counting -/

theorem startSend_blind : Blind startSend := fun s => by
  have hret : s.unheld.ret = s.ret := rfl
  unfold startSend
  rw [hret]
  cases s.ret.sending with
  | some packet => rfl
  | none =>
    cases s.ret.own with
    | nil => cases s.ret.pass <;> rfl
    | cons p own =>
      cases s.ret.pass with
      | nil => rfl
      | cons q pass => cases s.ret.last <;> rfl

theorem lookIntake_blind : Blind lookIntake := Blind.ite (fun _ => Iff.rfl) (fun _ => rfl) blind_id

theorem placeOwn_blind (p : ReturnPacket) : Blind (placeOwn p) :=
  lookIntake_blind.comp (startSend_blind.comp fun _ => rfl)

theorem queueNotice_blind : Blind queueNotice := fun s =>
  placeOwn_blind (.notice s.intake.slot0 (statusByte s) (s.events.groups.setWidth 8)) (s.setEvents s.events.noticeSent)

theorem tryNotice_blind : Blind tryNotice := Blind.ite (fun _ => Iff.rfl) queueNotice_blind blind_id

theorem dueTest_blind : Blind dueTest := tryNotice_blind.comp fun _ => rfl

theorem countFrame_blind : Blind countFrame := dueTest_blind.comp fun _ => rfl

theorem raise_blind (e : Source) : Blind (raise e) :=
  Blind.ite (fun _ => Iff.rfl) blind_id
    (Blind.ite (fun _ => Iff.rfl) (dueTest_blind.comp fun _ => rfl) fun _ => rfl)

theorem raiseWhen_blind (b : Bool) (e : Source) : Blind (raiseWhen b e) := by
  cases b
  · exact blind_id
  · exact raise_blind e

/-! ## The chain ports -/

theorem compareRoster_blind (c : Fin 8) : Blind (compareRoster c) := fun s => raiseWhen_blind _ _ s

theorem endEnumeration_blind (c : Fin 8) : Blind (endEnumeration c) :=
  Blind.ite (fun _ => Iff.rfl) (fun _ => rfl) ((raise_blind _).comp fun _ => rfl)

theorem markSilent_blind (c : Fin 8) (i : Fin 16) : Blind (markSilent c i) :=
  Blind.ite (fun _ => Iff.rfl) ((raise_blind _).comp fun _ => rfl) blind_id

theorem failChain_blind (c : Fin 8) : Blind (failChain c) :=
  Blind.ite (fun _ => Iff.rfl) ((raise_blind _).comp fun _ => rfl) blind_id

theorem recoverChain_blind (c : Fin 8) : Blind (recoverChain c) :=
  Blind.ite (fun _ => Iff.rfl) (fun _ => rfl) blind_id

theorem portSteps_blind (c : Fin 8) (p : ChainPort) : ∀ f ∈ portSteps c p, Blind f := by
  intro f hf
  unfold portSteps at hf
  split at hf
  · simp at hf
  · obtain rfl := List.mem_singleton.mp hf
    exact fun _ => rfl
  · split at hf
    · simp only [List.mem_cons, List.not_mem_nil, or_false] at hf
      obtain rfl | rfl := hf
      · exact compareRoster_blind c
      · exact endEnumeration_blind c
    · simp at hf
  · simp only [runSteps, List.mem_append, List.mem_cons, List.mem_map, List.not_mem_nil, or_false] at hf
    obtain (rfl | ⟨i, -, rfl⟩) | rfl := hf
    · exact fun _ => rfl
    · exact markSilent_blind c i
    · exact failChain_blind c
  · obtain rfl := List.mem_singleton.mp hf
    exact (recoverChain_blind c).comp fun _ => rfl

/-! ## The limiters and the zones -/

theorem evaluateLimiter_blind (c : Fin 8) : Blind (evaluateLimiter c) := fun s => by
  have hevaluated : evaluated s.unheld c = evaluated s c := rfl
  have hscale : newScale s.unheld c = newScale s c := rfl
  have hpower : s.unheld.power = s.power := rfl
  unfold evaluateLimiter
  rw [hevaluated, hscale, hpower]
  split
  · exact raiseWhen_blind _ _ (s.modifyLimiter c _)
  · rfl

theorem blackOut_blind (z : Fin 16) : Blind (blackOut z) := fun s => by
  have hthermal : s.unheld.thermal = s.thermal := rfl
  unfold blackOut
  rw [hthermal]
  cases s.thermal.config.response <;> rfl

theorem moveDown_blind (z : Fin 16) : Blind (moveDown z) := fun s => by
  have hthermal : s.unheld.thermal = s.thermal := rfl
  unfold moveDown
  rw [hthermal]
  cases downTarget s.thermal.config s.thermal.zones[z] <;> rfl

theorem settleZone_blind (z : Fin 16) : Blind (settleZone z) := fun s => by
  have hthermal : s.unheld.thermal = s.thermal := rfl
  unfold settleZone
  rw [hthermal]
  cases upTarget s.thermal.config.deglitch s.thermal.zones[z] with
  | none => exact moveDown_blind z s
  | some st =>
    cases st with
    | normal => rfl
    | warm => exact raise_blind _ (moveZone z .warm s)
    | hot => exact raise_blind _ (moveZone z .hot s)
    | shutdown => exact ((raise_blind _).comp (blackOut_blind z)) (moveZone z .shutdown s)

theorem evaluateZone_blind (z : Fin 16) : Blind (evaluateZone z) := (settleZone_blind z).comp fun _ => rfl

/-! ## The walk and the check -/

theorem noteSkip_blind (id : Nat) (k : SkippedAction) : Blind (noteSkip id k) := (raise_blind _).comp fun _ => rfl

theorem swapLook_blind : Blind swapLook :=
  Blind.ite (fun _ => Iff.rfl) ((raise_blind _).comp fun _ => rfl) (raise_blind _)

theorem issueFade_blind (id : Nat) (x : FadeAction × Nat) : Blind (issueFade id x) := fun s => by
  have hlights : s.unheld.lights = s.lights := rfl
  unfold issueFade lightFade
  rw [hlights]
  cases s.lights.scenes[x.1.scene]? with
  | none => exact noteSkip_blind id _ s
  | some scene =>
    cases scene with
    | ready entries => rfl
    | empty => exact noteSkip_blind id _ s
    | building n held => exact noteSkip_blind id _ s

theorem firingSteps_blind (c : Cue) : ∀ f ∈ firingSteps c, Blind f := by
  intro f hf
  simp only [firingSteps, List.mem_append, List.mem_cons, List.mem_map, List.not_mem_nil, or_false] at hf
  obtain ((rfl | rfl | rfl) | ⟨x, -, rfl⟩) | rfl | rfl | rfl := hf
  · exact Blind.ite (fun _ => Iff.rfl) swapLook_blind blind_id
  · exact Blind.ite (fun _ => Iff.rfl) (noteSkip_blind _ _) blind_id
  · unfold issueMaster
    cases c.master <;> exact fun _ => rfl
  · exact issueFade_blind c.id x
  · unfold issueFollow followAction
    cases c.follow with
    | none => exact blind_id
    | some a => exact Blind.ite (fun _ => Iff.rfl) (fun _ => rfl) fun _ => rfl
  · unfold issueLightMaster
    cases c.lightMaster <;> exact fun _ => rfl
  · exact (raise_blind _).comp fun _ => rfl

theorem checkFrameEnd_blind : Blind checkFrameEnd :=
  Blind.ite (fun _ => Iff.rfl) (Blind.ite (fun _ => Iff.rfl) (fun _ => rfl) ((raise_blind _).comp fun _ => rfl)) blind_id

/-! ## The whole frame end -/

/-- A frame end in progress, with no frame start held. -/
def EndWork.unheld (w : EndWork) : EndWork := { w with state := w.state.unheld }

theorem act_unheld {f : State → State} (hf : Blind f) (w : EndWork) : w.unheld.act f = (w.act f).unheld := by
  obtain ⟨s, _ | _ | n⟩ := w
  · exact congrArg (fun t => ({ state := t, left := none } : EndWork)) (hf s)
  · exact congrArg (fun t => ({ state := t, left := none } : EndWork)) (hf.comp countFrame_blind s)
  · exact congrArg (fun t => ({ state := t, left := some n } : EndWork)) (hf s)

theorem foldl_unheld {β : Type} {step : EndWork → β → EndWork} (h : ∀ w x, step w.unheld x = (step w x).unheld)
    (xs : List β) (w : EndWork) : xs.foldl step w.unheld = (xs.foldl step w).unheld := by
  induction xs generalizing w with
  | nil => rfl
  | cons x xs ih => rw [List.foldl_cons, h, ih, List.foldl_cons]

theorem actAll_unheld {fs : List (State → State)} (hfs : ∀ f ∈ fs, Blind f) (w : EndWork) :
    w.unheld.actAll fs = (w.actAll fs).unheld := by
  induction fs generalizing w with
  | nil => rfl
  | cons f fs ih =>
    rw [EndWork.actAll_cons, act_unheld (hfs f List.mem_cons_self), ih fun g hg => hfs g (List.mem_cons_of_mem f hg),
      EndWork.actAll_cons]

section
variable (w : EndWork)

theorem portsFrameEnd_unheld : portsFrameEnd w.unheld = (portsFrameEnd w).unheld :=
  foldl_unheld (step := portFrameEnd) (fun v c => actAll_unheld (portSteps_blind c v.state.ports[c]) v) _ w

theorem thermalFrameEnd_unheld : thermalFrameEnd w.unheld = (thermalFrameEnd w).unheld := by
  unfold thermalFrameEnd
  rw [actAll_unheld fun f hf => ?_, act_unheld (f := moveScales) fun _ => rfl]
  obtain ⟨z, -, rfl⟩ := List.mem_map.mp hf
  exact evaluateZone_blind z

theorem powerFrameEnd_unheld : powerFrameEnd w.unheld = (powerFrameEnd w).unheld := by
  refine foldl_unheld (step := powerFrameEndChain) (fun v c => ?_) _ w
  have hheavy : (evaluated v.unheld.state c
      && raisesHeavy v.unheld.state.power.limiters[c].scale (newScale v.unheld.state c)) =
      (evaluated v.state c && raisesHeavy v.state.power.limiters[c].scale (newScale v.state c)) := rfl
  unfold powerFrameEndChain
  rw [hheavy]
  dsimp only
  rw [act_unheld (evaluateLimiter_blind c), act_unheld (raiseWhen_blind _ _)]

theorem blocksFrameEnd_unheld (order : FrameEndOrder) : blocksFrameEnd order w.unheld = (blocksFrameEnd order w).unheld := by
  rw [blocksFrameEnd_eq, blocksFrameEnd_eq]
  split <;> simp only [portsFrameEnd_unheld, thermalFrameEnd_unheld, powerFrameEnd_unheld]

end

theorem checkedWork_unheld (order : FrameEndOrder) (s : State) : checkedWork order s.unheld = (checkedWork order s).unheld := by
  have hstart : ({ state := s.unheld, left := some order.countAt } : EndWork) =
      ({ state := s, left := some order.countAt } : EndWork).unheld := rfl
  have hcues : s.unheld.cues = s.cues := rfl
  have hframe : s.unheld.timing.frame = s.timing.frame := rfl
  unfold checkedWork cuesFrameEnd
  dsimp only
  rw [hcues, hframe, hstart, actAll_unheld fun f hf => ?_, act_unheld (f := settleCues s.timing.frame) fun _ => rfl,
    act_unheld checkFrameEnd_blind]
  obtain ⟨c, -, hf⟩ := List.mem_flatMap.mp hf
  exact firingSteps_blind c f hf

theorem finish_unheld (w : EndWork) : w.unheld.finish = w.finish.unheld := by
  obtain ⟨s, _ | n⟩ := w
  · rfl
  · exact countFrame_blind s

/-- R14, R15: a frame end works off the same whether a frame start is held or not. -/
theorem frameEndWork_unheld (order : FrameEndOrder) (s : State) :
    frameEndWork order s.unheld = (frameEndWork order s).unheld := by
  rw [frameEndWork_eq, frameEndWork_eq, checkedWork_unheld, blocksFrameEnd_unheld,
    act_unheld (f := publishAverages) fun _ => rfl, finish_unheld]

/-- R14, R17: a frame start takes the one held. -/
theorem frameStart_unheld (s : State) : frameStart s.unheld = frameStart s := by
  have hbegin : beginFrame s.unheld = beginFrame s := rfl
  unfold frameStart
  rw [hbegin]

end Sys2Proof.Machine
end

section
/-! The work of an output frame end (R14–R17, R113–R123, R175). -/

namespace Sys2Proof.Machine

/-! ## A frame end that raises nothing -/

theorem blocksFrameEnd_flags (order : FrameEndOrder) {w : EndWork} {s : State} (hunit : ∀ c, unit c w.state = unit c s)
    (hground : zoneGround w.state = zoneGround s)
    (hports : ∀ c : Fin 8, s.ports[c].state ≠ .run ∧ s.ports[c].state ≠ .enumerate) (hzones : ZonesEmpty s) :
    (blocksFrameEnd order w).state.events.flags = w.state.events.flags := by
  have hempty : ∀ {v : EndWork}, zoneGround v.state = zoneGround s → ZonesEmpty v.state := fun h => by
    obtain ⟨hcomp, hthermal⟩ := zoneGround_eq_iff.mp h
    rw [ZonesEmpty, hcomp, hthermal]
    exact hzones
  have hrun : ∀ c, (unit c w.state).1.state ≠ .run ∧ (unit c w.state).1.state ≠ .enumerate := fun c => by
    rw [hunit]
    exact hports c
  have hended : ∀ c, (portEnd (unit c w.state)).1.state ≠ .run := fun c => portEnd_not_run (hrun c).1 (hrun c).2
  rw [blocksFrameEnd_eq]
  split
  · rw [portsFrameEnd_flags fun c => ?_, thermalFrameEnd_flags (hempty ?_), powerFrameEnd_flags fun c => (hrun c).1]
    · rw [(zoneGround_powerFrameEnd w).1, hground]
    · rw [unit_thermalFrameEnd, unit_powerFrameEnd]
      exact hrun c
  · rw [thermalFrameEnd_flags (hempty ?_), portsFrameEnd_flags fun c => ?_, powerFrameEnd_flags fun c => (hrun c).1]
    · rw [unit_powerFrameEnd]
      exact hrun c
    · rw [zoneGround_portsFrameEnd, (zoneGround_powerFrameEnd w).1, hground]
  · rw [powerFrameEnd_flags fun c => ?_, portsFrameEnd_flags fun c => ?_, thermalFrameEnd_flags (hempty hground)]
    · rw [unit_thermalFrameEnd]
      exact hrun c
    · rw [unit_portsFrameEnd, unit_thermalFrameEnd]
      exact hended c
  · rw [powerFrameEnd_flags fun c => ?_, thermalFrameEnd_flags (hempty ?_), portsFrameEnd_flags hrun]
    · rw [zoneGround_portsFrameEnd, hground]
    · rw [unit_thermalFrameEnd, unit_portsFrameEnd]
      exact hended c

theorem checkedWork_flags (order : FrameEndOrder) {s : State} (hdues : dueCues s = []) (hs : s.looks.staged ≠ .checking) :
    (checkedWork order s).state.events.flags = s.events.flags := by
  have hwork : checkedWork order s =
      (({ state := s, left := some order.countAt } : EndWork).act (settleCues s.timing.frame)).act checkFrameEnd := by
    have hwalk : (s.cues.queue.filter (cueDue s.timing.frame)).flatMap firingSteps = [] := by
      rw [show s.cues.queue.filter (cueDue s.timing.frame) = [] from hdues, List.flatMap_nil]
    unfold checkedWork cuesFrameEnd
    dsimp only
    rw [hwalk, EndWork.actAll_nil]
  have hlooks : (({ state := s, left := some order.countAt } : EndWork).act (settleCues s.timing.frame)).state.looks
      = s.looks := EndWork.act_project (π := State.looks) (f := settleCues s.timing.frame) (g := id) countFrame_looks (fun _ => rfl) _
  rw [hwork, act_flags (Q := fun u => u.looks = s.looks) hlooks (fun u hu => (countFrame_looks u).trans hu) fun u hu => ?_]
  · exact act_flags (Q := fun _ => True) (f := settleCues s.timing.frame) trivial (fun _ _ => trivial) fun _ _ => rfl
  · rw [checkFrameEnd, if_neg (by rw [hu]; exact hs)]

theorem frameEndWork_flags (order : FrameEndOrder) {s : State} (hdues : dueCues s = []) (hs : s.looks.staged ≠ .checking)
    (hports : ∀ c : Fin 8, s.ports[c].state ≠ .run ∧ s.ports[c].state ≠ .enumerate) (hzones : ZonesEmpty s) :
    (frameEndWork order s).events.flags = s.events.flags := by
  rw [frameEndWork_project (π := fun s => s.events.flags) countFrame_flags (fun _ => rfl),
    blocksFrameEnd_flags order (unit_checkedWork order s) (zoneGround_checkedWork order s).1 hports hzones,
    checkedWork_flags order hdues hs]

/-! ## The cue queue (R116, R121, R123) -/

section
variable {m : BitVec 32} {q : List Cue} {c : Cue}

/-- R116, R123: what stays of a cue. -/
def Cue.stays (m : BitVec 32) (c : Cue) : Option Cue := if cueDue m c then c.settle m else some c

theorem flatMap_afterWalk (m : BitVec 32) (q : List Cue) : q.flatMap (Cue.afterWalk m) = q.filterMap (Cue.stays m) := by
  rw [List.filterMap_eq_flatMap_toList]
  refine List.flatMap_congr fun c _ => ?_
  unfold Cue.afterWalk Cue.stays
  split <;> rfl

theorem Cue.stays_id {d : Cue} (h : c.stays m = some d) : d.id = c.id := by
  unfold Cue.stays Cue.settle at h
  split at h
  · split at h
    · simp at h
    · split at h
      · exact (congrArg Cue.id (Option.some.inj h)).symm
      · split at h
        · simp at h
        · exact (congrArg Cue.id (Option.some.inj h)).symm
  · exact (congrArg Cue.id (Option.some.inj h)).symm

theorem mem_stays {d : Cue} (hc : c ∈ q) (h : c.stays m = some d) : d ∈ q.filterMap (Cue.stays m) :=
  List.mem_filterMap.mpr ⟨c, hc, h⟩

/-- R123: a due cue without a repeat is gone, and no other cue has its id. -/
theorem spent_not_mem (hc : c ∈ q) (hdue : cueDue m c = true) (hrep : c.rep = none) (hn : (q.map Cue.id).Nodup) :
    c.id ∉ (q.filterMap (Cue.stays m)).map Cue.id := by
  intro hid
  obtain ⟨d, hd, hdid⟩ := List.mem_map.mp hid
  obtain ⟨b, hb, hstays⟩ := List.mem_filterMap.mp hd
  obtain rfl : b = c := List.inj_on_of_nodup_map hn hb hc ((Cue.stays_id hstays).symm.trans hdid)
  rw [Cue.stays, if_pos hdue, Cue.settle, hrep] at hstays
  exact absurd hstays (by simp)

/-- R116: a due cue that repeats for ever is re-armed. -/
theorem Cue.stays_forever {r : CueRepeat} (hdue : cueDue m c = true) (hrep : c.rep = some r) (hr : r.count = 0) :
    c.stays m = some { c with trigger := .atFrame (m + 1 + BitVec.ofNat 32 r.period) } := by
  rw [Cue.stays, if_pos hdue, Cue.settle, hrep]
  dsimp only
  rw [if_pos hr, Cue.rearm, ← hrep]

theorem filterMap_stays_idle (h : ∀ c ∈ q, cueDue m c = false) : q.filterMap (Cue.stays m) = q := by
  refine (List.filterMap_congr fun c hc => ?_).trans (List.filterMap_some)
  rw [Cue.stays, if_neg (by rw [h c hc]; decide)]

end

theorem frameEndWork_queue (order : FrameEndOrder) (s : State) :
    (frameEndWork order s).cues.queue = s.cues.queue.filterMap (Cue.stays s.timing.frame) := by
  rw [frameEndWork_cues, ← flatMap_afterWalk]

theorem fires_master (v : Stage) (cs : List Cue) : (cs.foldl Stage.fire v).master = v.master := by
  induction cs generalizing v with
  | nil => rfl
  | cons c cs ih => rw [List.foldl_cons, ih, (v.fire_master c).1]

/-- R84, R142: the masters move at frame starts alone. -/
theorem frameEndWork_masters (order : FrameEndOrder) (s : State) :
    (frameEndWork order s).power.master = s.power.master ∧ (frameEndWork order s).lights.master = s.lights.master := by
  have hstage : (frameEndWork order s).power.master = (walked s).master :=
    congrArg Stage.master (stage_frameEndWork order s)
  obtain ⟨-, hlights, -⟩ := frameEndWork_ramps order s
  refine ⟨hstage.trans (fires_master (stage s) (dueCues s)), ?_⟩
  rw [hlights]

/-- R121: a frame end with no due cue. -/
theorem frameEndWork_idle (order : FrameEndOrder) {s : State} (hdues : dueCues s = []) :
    (frameEndWork order s).cues.lastFired = s.cues.lastFired
      ∧ (s.looks.staged ≠ .checking → (frameEndWork order s).looks = s.looks)
      ∧ (frameEndWork order s).power.ramp = s.power.ramp ∧ (frameEndWork order s).lights = s.lights := by
  have hwalked : walked s = stage s := by rw [walked, hdues, List.foldl_nil]
  obtain ⟨hlooks, hramp, hlights, -⟩ := frameEndWork_stage order s
  rw [hwalked] at hlooks hramp hlights
  refine ⟨?_, fun hs => hlooks.trans (LookStore.atFrameEnd_still hs), hramp, hlights⟩
  rw [frameEndWork_cues, hdues]
  rfl

/-- Settles O41. -/
theorem frameEndWorkDone : Obligations.FrameEndWork := by
  intro order s m due rearmed stays frames reached
  have hdue : ∀ c, due c = cueDue s.timing.frame c := fun c => by
    cases htrigger : c.trigger <;> simp [due, m, cueDue, htrigger, atOrBelow]
  have hdues : s.cues.queue.filter due = dueCues s := List.filter_congr fun c _ => hdue c
  have hstays : ∀ c, stays c = c.stays m := fun c => by
    simp only [stays, Cue.stays, hdue]
    refine if_congr Iff.rfl ?_ rfl
    unfold Cue.settle
    cases c.rep with
    | none => rfl
    | some r => exact if_congr Iff.rfl rfl (if_congr (by omega) rfl rfl)
  have hidle : (∀ c ∈ s.cues.queue, ¬ due c) → dueCues s = [] := fun h => by
    rw [← hdues]
    exact List.filter_eq_nil_iff.mpr h
  have hended : (frameEndWork order s).cues.ended = some m := by rw [frameEndWork_cues]
  have htiming := frameEndWork_timing order s
  refine ⟨fun hact => congrArg Host.Outcome.next (if_neg hact), fun hact hheld => ?_, fun hact hheld => ?_⟩
  · have hqueue := frameEndWork_queue order s
    have hcues := frameEndWork_cues order s
    obtain ⟨hmaster, hlightMaster⟩ := frameEndWork_masters order s
    obtain ⟨hpins, hlink, hstore, -, hcomp, -⟩ := frameEndWork_frame order s
    refine ⟨_, exec_outputFrameEnd_free hact hheld order, ?_⟩
    dsimp only [endFrame]
    refine ⟨by rw [htiming], hended, ?_, fun c hc => ?_, fun c hc hno => ?_, fun c hc hyes hrep hn => ?_,
      fun c hc hyes r hrep hr => ?_, fun hno => ?_, fun hp hf => ?_, fun hno hs hports hslots hd => ?_, fun hflags => ?_,
      frameEndWork_acc order s, hmaster, hlightMaster, hstore, hcomp, hlink, hpins, frameEndWork_thermalConfig order s⟩
    · rw [hqueue]
      exact List.filterMap_congr fun c _ => (hstays c).symm
    · rw [hdues] at hc
      refine ⟨?_, frameEndWork_cueFired (List.mem_of_getLast? hc)⟩
      rw [hcues, hc]
      rfl
    · rw [hqueue]
      refine mem_stays hc ?_
      rw [← hstays]
      exact if_neg hno
    · rw [hqueue]
      exact spent_not_mem hc ((hdue c).symm.trans hyes) hrep hn
    · rw [hqueue]
      exact mem_stays hc (Cue.stays_forever ((hdue c).symm.trans hyes) hrep hr)
    · obtain ⟨hfired, hlooks, hramp, hlights⟩ := frameEndWork_idle order (hidle hno)
      refine ⟨?_, hfired, hlooks, hmaster, hramp, hlights⟩
      rw [hqueue]
      exact filterMap_stays_idle fun c hc => by rw [← hdue, ← Bool.not_eq_true]; exact hno c hc
    · have hframes : frames = min 255 (s.events.frames + 1) := if_neg hp
      rw [hframes]
      exact frameEndWork_frames order hp hf
    · exact frameEndWork_flags order (hidle hno) hs hports ⟨hslots, hd⟩
    · exact frameEndWork_quiet order hflags
  · have hfrozen : endFrame (frameEndWork order s.unheld) = (endFrame (frameEndWork order s)).unheld := by
      rw [frameEndWork_unheld]
      rfl
    have hstart := frameEnd_eq order s
    rw [if_pos hheld] at hstart
    obtain ⟨-, -, -, -, hcues, -⟩ := frameStart_others (endFrame (frameEndWork order s))
    have hstarted := frameStart_timing (endFrame (frameEndWork order s))
    refine ⟨frameEnd order s, endFrame (frameEndWork order s.unheld), exec_outputFrameEnd hact order,
      exec_outputFrameEnd_free (s := s.unheld) hact rfl order, ?_, ?_, ?_, ?_, ?_⟩
    · rw [hstart, hfrozen, frameStart_unheld]
    · rw [hstart, hstarted]
      simp only [endFrame, htiming, m]
    · rw [hstart, hstarted]
    · rw [hstart, hstarted]
    · rw [hstart, hcues]
      exact hended

end Sys2Proof.Machine
end
